-- ==== Sys2Proof/Word.lean ====
section
/-! DEFINITION. The byte of the fixture line and of the configuration memory, and the bits of a
number: the plain data every other file stands on. -/

namespace Sys2Proof

/-- One byte of a telegram payload or of the configuration image. -/
abbrev Byte := BitVec 8

/-- The `width` low bits of `n`, most significant first (chapter 12: "the most significant bit
comes first"). -/
def bitsOf : (width n : Nat) → List Bool
  | 0, _ => []
  | w + 1, n => n.testBit w :: bitsOf w n

/-- `n` held within `lo..hi`, at the nearer end when outside. -/
def clampNat (lo hi n : Nat) : Nat := max lo (min n hi)

/-- `n` held within `lo..hi`, at the nearer end when outside. -/
def clampInt (lo hi n : Int) : Int := max lo (min n hi)

end Sys2Proof
end

