-- ==== Sys2Proof/Syntax.lean ====
section
/-! DEFINITION. The commands: one constructor of `Instr` for each row of spec/opcode_table.json, with
what the event brings from outside the station as its operands. -/

namespace Sys2Proof

/-- The pair of a group 0..7 and a car 0..15 that names one car (2.4). -/
structure CarKey where
  group : Fin 8
  car : Fin 16
  deriving DecidableEq, Repr

/-- The pair of a kiosk address and a tag that names one assignment (R107). -/
structure AssignKey where
  kiosk : Nat
  tag : Nat
  deriving DecidableEq, Repr

/-- The seventeen contacts of the keypad and the assist key (6.1). -/
inductive Key where
  | digit (d : Fin 10)
  | b | l | m | s
  | clr | ok
  | assist
  deriving DecidableEq, Repr

/-- The position of the recall key switch (R143). -/
inductive KeyPosition where
  | off | on | bypass
  deriving DecidableEq, Repr

/-- The two text slots (R135). -/
inductive Slot where
  | urgent | info
  deriving DecidableEq, Repr

/-- What holds the station in reset: the reset pin, or a supply below 2.8 V (R182, 12.5). -/
inductive ResetSource where
  | pin | supply
  deriving DecidableEq, Repr

/-- What the receiver read back of the looped test STAT (the table of R187). -/
inductive LoopBack where
  | everyBitEqual
  | someBitDifferent
  | checkFailed
  | noCompleteTelegram
  deriving DecidableEq, Repr

/-- A telegram as it stands on the line, field by field (12.1). -/
structure Frame where
  priority : BitVec 3
  source : BitVec 7
  kind : BitVec 4
  length : BitVec 5
  payload : List Byte
  crc : BitVec 16
  deriving DecidableEq, Repr

/-- The commands the station meets, one for each row of the table, in the table's order. A command
that takes an entry of the receive queue has no operand: the entry is in the queue. A deadline's
command names the record, entry or region whose deadline passes, where there are several. -/
inductive Instr where
  | resetAsserted (source : ResetSource)
  /-- The straps are read at the instant the reset ends (R184). -/
  | powerOnReset (address : BitVec 7) (rate : BitVec 2)
  | pinReset (address : BitVec 7) (rate : BitVec 2)
  /-- `memory` is what the serial memory answers from its address 0 on (12.3). -/
  | loadingEnd (memory : List Byte)
  | selfCheckEnd (loop : LoopBack)
  | telegramReceived (frame : Frame)
  | lineIdle
  | attemptWon
  | attemptLost
  | attemptFault
  | mutedDeadline
  | car
  | stops
  | assign
  | showTake
  | showRelease
  | text
  | textClear
  | recallStart
  | recallEnd
  | night
  | day
  | wakeSleep
  | wakeWake
  | queryStatus
  | queryRestart
  | trackingInstant
  | staleDeadline (car : CarKey)
  | lostDeadline (car : CarKey)
  | chimeToneEnd
  | chimeGapEnd
  | chimeSpacingEnd
  /-- All the keys that become DOWN at this one instant (R86). -/
  | keyDown (keys : List Key)
  | keyUp (key : Key)
  | keyStuck (key : Key)
  | entryDeadline
  | requestTimeout (tag : Nat)
  | promptDeadline
  | localDisplayDeadline (key : AssignKey)
  | validityDeadline (key : AssignKey)
  | holdoffDeadline (key : AssignKey)
  | releaseDeadline (key : AssignKey)
  | idleDeadline
  | drainDeadline
  | recallKeyMove (position : KeyPosition)
  | assemblyDeadline (slot : Slot)
  | lifeDeadline (slot : Slot)
  | scrollDeadline (region : Nat)
  | alertHoldOffDeadline
  /-- A peer's first edge, `planned` nanoseconds before the station's own planned edge (R197). -/
  | lineBusy (planned : Nat)
  | blinkPhaseChange
  deriving DecidableEq, Repr

end Sys2Proof
end

