-- ==== Sys2Proof/Config.lean ====
section
/-! DEFINITION. What the part fixes and no image changes, and the one value the manual leaves open. -/

namespace Sys2Proof.Config

/-- Places in the receive queue (R16). -/
abbrev rxCapacity : Nat := 24
/-- Occupancy at which the receive queue becomes congested (R17). -/
abbrev congestedAt : Nat := 18
/-- Occupancy at which the congested state ends (R17). -/
abbrev congestionEndsAt : Nat := 8
/-- Faults that bring MUTED (R7). -/
abbrev faultLimit : Nat := 16
/-- Length of MUTED in milliseconds (R8). -/
abbrev mutedTime : Nat := 1000
/-- Places in the car table (R31). -/
abbrev carCapacity : Nat := 32
/-- Tracking interval in milliseconds (R49). -/
abbrev trackingInterval : Nat := 10
/-- Extrapolation horizon in milliseconds (R51). -/
abbrev horizon : Nat := 400
/-- Largest speed held, in millimetres per second (R36). -/
abbrev speedLimit : Int := 12000
/-- Longest stop list (R44). -/
abbrev stopCapacity : Nat := 16
/-- Waiting places of the chime queue (R79). -/
abbrev chimeCapacity : Nat := 4
/-- Tone, gap and spacing of the chime in milliseconds (R81). -/
abbrev toneTime : Nat := 300
/-- The silent gap after a tone (R81). -/
abbrev gapTime : Nat := 200
/-- The pause after a chime entry (R81). -/
abbrev spacingTime : Nat := 400
/-- Debounce time of the keypad and the recall key (R85, R143). -/
abbrev debounce : Nat := 20
/-- Time DOWN after which a key is STUCK (R87). -/
abbrev stuckTime : Nat := 10000
/-- The entry timeout (R89). -/
abbrev entryTimeout : Nat := 5000
/-- Places in the request file (R95). -/
abbrev requestCapacity : Nat := 4
/-- Largest passenger count of a request (R95). -/
abbrev passengerLimit : Nat := 15
/-- The largest tag; the counter goes from it to 1 (R95). -/
abbrev tagLimit : Nat := 65535
/-- Display time of INVALID, NOT_HERE and NOT_SERVED (R104). -/
abbrev refusalPromptTime : Nat := 2000
/-- Display time of BUSY (R104). -/
abbrev busyPromptTime : Nat := 1500
/-- Display time of TRY_AGAIN (R104). -/
abbrev tryAgainPromptTime : Nat := 3000
/-- Places in the prompt table (R107). -/
abbrev promptCapacity : Nat := 24
/-- The drain limit (R128, R174). -/
abbrev drainLimit : Nat := 500
/-- The affinity rank of an unlisted kiosk (R115). -/
abbrev unlistedRank : Nat := 7
/-- Tap value of the holdoff LFSR (R116). -/
abbrev lfsrTaps : BitVec 16 := 46080#16
/-- Time within which every part of a text must arrive (R136). -/
abbrev assemblyTime : Nat := 2000
/-- Life of a shown text (R137). -/
abbrev lifeTime : Nat := 10000
/-- The pause at the start of a scroll pass (R163). -/
abbrev scrollPause : Nat := 1000
/-- Half the blink period (R162). -/
abbrev blinkHalf : Nat := 500
/-- Hold-off after an alert STAT (R190). -/
abbrev alertHoldOff : Nat := 1000
/-- Format code of an image this part reads (R185). -/
abbrev formatCode : Nat := 3
/-- Level of the start and fault patterns (R166). -/
abbrev patternLevel : Nat := 12
/-- Lines and cells the matrix drive has (R166). -/
abbrev matrixLines : Nat := 4
/-- Cells on each line of the matrix drive (R166). -/
abbrev matrixCells : Nat := 32

/-- FREE VALUE (assumption 4, DESIGN CHOICE). The claim rules compare a peer's address with the
station's own as lower or higher (R118, R121) and say nothing of an equal one, which unique
addresses exclude and which R2 leaves unchecked. Whether the peer then counts as the lower is this
constant, applied to the address and to a counter of the draws made; it has no body. -/
opaque equalAddressIsLower : (address draw : Nat) → Bool

end Sys2Proof.Config
end

