-- ==== Sys2Proof/Machine/State.lean ====
section
/-! DEFINITION. The state of the station, block by block as the manual's block table owns it, the state
right after reset, and the reasons a step can stop. -/

namespace Sys2Proof.Machine

/-! ## Codes of the telegrams (12.1) -/

/-- The nine telegram kinds (1.1). -/
inductive Kind where
  | notice | wake | car | assign | shows | req | stops | stat | query
  deriving DecidableEq, Repr

/-- The motion a CAR reports. -/
inductive Motion where
  | parked | runUp | runDown | levelling
  deriving DecidableEq, Repr

/-- UP or DOWN. A committed direction is optional: absent is NONE. -/
inductive Dir where
  | up | down
  deriving DecidableEq, Repr

/-- The door state a CAR reports. -/
inductive Door where
  | closed | opening | opened | closing
  deriving DecidableEq, Repr

/-- The service mode a CAR reports. -/
inductive Service where
  | normal | independent | fireRecall | fireService | inspection | outOfService
  deriving DecidableEq, Repr

/-- A deck of a car. The deck of an assignment is optional: absent is none. -/
inductive Deck where
  | lower | upper
  deriving DecidableEq, Repr

/-- The class of a request. -/
inductive ReqClass where
  | standard | accessible
  deriving DecidableEq, Repr

/-- The result an ASSIGN carries. -/
inductive Result where
  | assigned | notServed | unavailable
  deriving DecidableEq, Repr

/-! ## Configuration (chapters 2, 9, 12) -/

/-- One entry of the floor map (2.1). -/
structure Floor where
  level : Nat
  label : List Nat
  displayable : Bool
  served : BitVec 8
  deriving DecidableEq, Repr

/-- What a region shows, with the car and deck it names (R151). -/
inductive RegionKind where
  | position (car : CarKey) (deck : Deck)
  | stoplist (car : CarKey)
  | board
  | kiosk
  | notice
  deriving DecidableEq, Repr

/-- One region of the matrix (R151). -/
structure Region where
  kind : RegionKind
  line : Nat
  first : Nat
  width : Nat
  overlay : Bool
  deriving DecidableEq, Repr

/-- The two drive modes of a lantern output (R167). -/
inductive DriveMode where
  | pushPull | openDrain
  deriving DecidableEq, Repr

/-- One configured lantern (R28, R71). -/
structure LanternEntry where
  output : Nat
  car : CarKey
  deck : Deck
  landing : Nat
  direction : Dir
  mode : DriveMode
  deriving DecidableEq, Repr

/-- The configuration as the loader leaves it: the floor map with its gaps and switch points, the
car names, the values after clamping, the surviving items and the pinned set. -/
structure Settings where
  floors : List Floor
  gaps : List Nat
  switchPoints : List Nat
  switchFraction : Nat
  hysteresis : Nat
  staleTimeout : Nat
  lostTimeout : Nat
  lanternLead : Nat
  requestTimeout : Nat
  replyTime : Nat
  defaultValidity : Nat
  holdoffBase : Nat
  rowCount : Nat
  scrollStep : Nat
  activeLevel : Nat
  dimLevel : Nat
  lineCount : Nat
  lineWidth : Nat
  trims : List Int
  dormantDelay : Nat
  homeFloor : Option Nat
  groups : BitVec 8
  keyFitted : Bool
  alertMask : BitVec 13
  affinity : List (Nat × Nat)
  recallText : List Nat
  idleText : List Nat
  carNames : List Nat
  regions : List Region
  lanterns : List LanternEntry
  pinned : List CarKey
  deriving DecidableEq, Repr

/-- No configuration: before the image is read, and with a REJECTED image, from which nothing is
kept; the alert mask is then empty and the key counts as fitted (R185). DESIGN CHOICE: of the other values
the manual states none for that time, only a default that an image may carry (R21, R40, R55 and the like);
they are 0, absent or empty here (assumption 35). -/
def Settings.none : Settings where
  floors := []
  gaps := []
  switchPoints := []
  switchFraction := 0
  hysteresis := 0
  staleTimeout := 0
  lostTimeout := 0
  lanternLead := 0
  requestTimeout := 0
  replyTime := 0
  defaultValidity := 0
  holdoffBase := 0
  rowCount := 0
  scrollStep := 0
  activeLevel := 0
  dimLevel := 0
  lineCount := 0
  lineWidth := 0
  trims := []
  dormantDelay := 0
  homeFloor := .none
  groups := 0
  keyFitted := true
  alertMask := 0
  affinity := []
  recallText := []
  idleText := []
  carNames := []
  regions := []
  lanterns := []
  pinned := []

/-! ## Start-up loader (chapter 11) -/

/-- The stages of the start sequence, and the time the station is held in reset (R182). -/
inductive Stage where
  | heldInReset | loading | selfCheck | running
  deriving DecidableEq, Repr

/-- The recorded cause of the last reset (R182). -/
inductive ResetCause where
  | powerOn | pin | line
  deriving DecidableEq, Repr

/-- The configuration status (R185). -/
inductive ConfigStatus where
  | ok | partially | rejected
  deriving DecidableEq, Repr

/-- The start-up loader: the reset inputs, the straps as pins, the address and rate sampled from
them, the stage, the cause and the configuration status, absent while not yet decided. -/
structure Startup where
  resetPinAsserted : Bool
  supplyLow : Bool
  addressPins : BitVec 7
  ratePins : BitVec 2
  address : Nat
  addressRefused : Bool
  rateCode : BitVec 2
  stage : Stage
  cause : ResetCause
  config : Option ConfigStatus
  deriving DecidableEq, Repr

/-! ## Line interface, transmit selector and receive queue (chapter 1) -/

/-- What the line interface makes of the line: off, joined but 2 T not yet observed, busy, idle. -/
inductive LineWatch where
  | off | joining | busy | idle
  deriving DecidableEq, Repr

/-- The transmitter states of 1.2. -/
inductive TxState where
  | off | ready | sending | muted | held
  deriving DecidableEq, Repr

/-- The classes of the transmit selector (1.3). -/
inductive TxClass where
  | req | shows | stat
  deriving DecidableEq, Repr

/-- What a SHOW FIFO item is: a first take, a reassert, or a release. -/
inductive ShowAct where
  | firstTake | reassert | release
  deriving DecidableEq, Repr

/-- One item of the SHOW FIFO, and whether it is on the line. `withdrawn` is set when the prompt record or the
release buffer entry it was made for leaves while it stands there: the item stays until its outcome (R117), which
finds no record and no entry, whatever an ASSIGN has made of the key since (R9, R112, R126, R128, R129). -/
structure ShowItem where
  act : ShowAct
  key : AssignKey
  onLine : Bool
  withdrawn : Bool := false
  deriving DecidableEq, Repr

/-- Which own telegram an attempt carries. -/
inductive TxItem where
  | req (tag : Nat)
  | shows (act : ShowAct) (key : AssignKey)
  | stat
  deriving DecidableEq, Repr

/-- An attempt on the line: its telegram, with the content captured at its beginning (R11). -/
structure Attempt where
  item : TxItem
  frame : Frame
  deriving DecidableEq, Repr

/-- The line interface. -/
structure LineInterface where
  watch : LineWatch
  receiving : Bool
  tx : TxState
  faults : Nat
  mutedUntil : Option Nat
  attempt : Option Attempt
  /-- The looped test STAT of SELF_CHECK (R187). -/
  testStat : Option Frame
  deriving DecidableEq, Repr

/-- One entry of the receive queue (1.5). -/
structure RxEntry where
  kind : Kind
  source : Nat
  payload : List Byte
  stamp : Nat
  deriving DecidableEq, Repr

/-- The receive queue, oldest entry first, and its congested state. -/
structure ReceiveQueue where
  entries : List RxEntry
  congested : Bool
  deriving DecidableEq, Repr

/-! ## Car table and tracker (chapters 3 and 4) -/

/-- The reported fields of a car record, and the arrival stamp. -/
structure Report where
  deckCount : Nat
  height : Nat
  speed : Int
  motion : Motion
  committed : Option Dir
  door : Door
  service : Service
  nextStop : Option Nat
  stamp : Nat
  deriving DecidableEq, Repr

/-- The freshness of a record (R32). -/
inductive Freshness where
  | awaiting | live | stale | lost
  deriving DecidableEq, Repr

/-- A car record (R31). `shown` holds one displayed floor for each region of the configuration, at
the region's index; a region that does not show the car has none. -/
structure CarRecord where
  key : CarKey
  pinned : Bool
  report : Option Report
  freshness : Freshness
  staleAt : Option Nat
  lostAt : Option Nat
  stops : List Nat
  estimate : Option Int
  floor : Option Nat
  shown : List (Option Nat)
  deriving DecidableEq, Repr

/-! ## Lanterns and chime (chapter 5) -/

/-- A lantern: its entry, whether it is LIT, and the door-seen mark. -/
structure Lantern where
  entry : LanternEntry
  lit : Bool
  doorSeen : Bool
  deriving DecidableEq, Repr

/-- A chime entry names its lantern by the output and carries its strokes. -/
structure ChimeEntry where
  output : Nat
  strokes : Nat
  deriving DecidableEq, Repr

/-- The chime player (R79). While PLAYING: the entry, the strokes still to sound after this one, and
the instant the tone or the gap ends. -/
inductive Player where
  | idle
  | tone (entry : ChimeEntry) (left : Nat) (ends : Nat)
  | gap (entry : ChimeEntry) (left : Nat) (ends : Nat)
  | spacing (ends : Nat)
  deriving DecidableEq, Repr

/-- The chime queue and its player. -/
structure Chime where
  queue : List ChimeEntry
  player : Player
  deriving DecidableEq, Repr

/-! ## Keypad, entry and request file (chapter 6) -/

/-- The debounced state of a key (R84). -/
inductive KeyState where
  | up | down | stuck
  deriving DecidableEq, Repr

/-- A key: its contact (an input pin, true when closed), the reading of the last sample and since
when samples have read it without interruption, the debounced state and since when it holds. -/
structure KeyRecord where
  key : Key
  contact : Bool
  reading : Bool
  readingSince : Nat
  state : KeyState
  stateSince : Nat
  deriving DecidableEq, Repr

/-- The keypad scanner. -/
structure Keypad where
  keys : List KeyRecord
  locked : Bool
  deriving DecidableEq, Repr

/-- Why a request was refused (R99). -/
inductive Refusing where
  | notServed | unavailable
  deriving DecidableEq, Repr

/-- A kiosk prompt's kind with its content (R104). -/
inductive PromptContent where
  | wait (dest : Nat)
  | invalid (text : List Nat)
  | notHere (floor : Nat)
  | notServed (floor : Nat)
  | busy (floor : Nat)
  | tryAgain (dest : Nat)
  | answer (key : AssignKey) (dest : Nat) (car : CarKey) (deck : Option Deck) (cls : ReqClass)
  | refused (dest : Nat) (reason : Refusing)
  deriving DecidableEq, Repr

/-- A prompt with its deadline. -/
structure KioskPrompt where
  content : PromptContent
  ends : Nat
  deriving DecidableEq, Repr

/-- The entry controller (R89) with its prompt slot (R104). The entry is ENTERING while its deadline
is present. -/
structure EntryController where
  entering : Bool
  buffer : List Nat
  cls : ReqClass
  deadline : Option Nat
  prompt : Option KioskPrompt
  deriving DecidableEq, Repr

/-- A request entry (R95). -/
structure Request where
  tag : Nat
  dest : Nat
  cls : ReqClass
  count : Nat
  sent : Bool
  created : Nat
  deriving DecidableEq, Repr

/-- The request file, ordered by creation stamp, and the tag counter (R95). -/
structure RequestFile where
  entries : List Request
  tagCounter : Nat
  deriving DecidableEq, Repr

/-! ## Prompt table, release buffer, claim holdoff (chapter 7) -/

/-- The phase of a prompt record. -/
inductive Phase where
  | waiting | boarding
  deriving DecidableEq, Repr

/-- The board state of a prompt record. -/
inductive BoardState where
  | none | pending | owned | watched
  deriving DecidableEq, Repr

/-- A prompt record (R107). `localUntil` is the local part: present with its display deadline. -/
structure PromptRecord where
  key : AssignKey
  dest : Nat
  car : CarKey
  deck : Option Deck
  cls : ReqClass
  phase : Phase
  validUntil : Nat
  localUntil : Option Nat
  board : BoardState
  holdoff : Option Nat
  takeQueued : Bool
  claimant : Option Nat
  reassertDone : Bool
  claimTime : Option Nat
  /-- The model's own: the order of claims made in one millisecond (assumption 9). -/
  claimOrder : Nat
  deriving DecidableEq, Repr

/-- A release buffer entry (R128). -/
structure ReleaseEntry where
  key : AssignKey
  deadline : Nat
  deriving DecidableEq, Repr

/-- The claim holdoff: the LFSR (R116), and the model's own count of claims made. -/
structure ClaimHoldoff where
  lfsr : BitVec 16
  claims : Nat
  deriving DecidableEq, Repr

/-! ## Notices and the recall latch (chapter 8) -/

/-- A slot's shown text (R135). -/
structure ShownText where
  id : Nat
  text : List Nat
  life : Nat
  deriving DecidableEq, Repr

/-- A slot's assembly: for each part index below the count, the characters or absent (R135). -/
structure Assembly where
  id : Nat
  parts : List (Option (List Nat))
  deadline : Nat
  deriving DecidableEq, Repr

/-- One text slot (R135). -/
structure TextSlot where
  shown : Option ShownText
  assembly : Option Assembly
  deriving DecidableEq, Repr

/-- The notice store. -/
structure NoticeStore where
  urgent : TextSlot
  info : TextSlot
  deriving DecidableEq, Repr

/-- The recall latch (R143, R144): the two contacts (input pins), the position of the last sample and
since when it has been read without interruption, the taken position, and the latch, true when SET. -/
structure RecallLatch where
  onContact : Bool
  bypassContact : Bool
  reading : KeyPosition
  readingSince : Nat
  position : KeyPosition
  latched : Bool
  deriving DecidableEq, Repr

/-! ## Composer (chapter 9) -/

/-- A region's display state (R152): the chosen cell string, the scroll offset, the scroll deadline
and the pass state, STEPPING or PAUSE. -/
structure RegionView where
  region : Region
  text : List Nat
  offset : Nat
  deadline : Option Nat
  stepping : Bool
  deriving DecidableEq, Repr

/-- The composer: its regions, and the station blink phase (R162). -/
structure Display where
  regions : List RegionView
  blinkOn : Bool
  deriving DecidableEq, Repr

/-! ## Power controller and status (chapters 10 and 11) -/

/-- The power states (R170). -/
inductive PowerMode where
  | active | dim | draining | dormant
  deriving DecidableEq, Repr

/-- The power controller (R170). -/
structure PowerController where
  mode : PowerMode
  night : Bool
  idleDeadline : Option Nat
  drainDeadline : Option Nat
  /-- The model's own: the instant at which the idle deadline last drained the station; absent once a SLEEP
  has (R180, first line, assumption 31). -/
  idleDrainAt : Option Nat := none
  deriving DecidableEq, Repr

/-- What filled the STAT slot (R190). -/
inductive StatOrigin where
  | solicited | alert
  deriving DecidableEq, Repr

/-- Status: the STAT slot, the change flags with their marks, by the bits of 12.1, the alert hold-off
deadline and the alert-pending mark (R190 to R192). -/
structure StatusBlock where
  slot : Option StatOrigin
  flags : BitVec 13
  captured : BitVec 13
  recurred : BitVec 13
  holdOff : Option Nat
  alertPending : Bool
  deriving DecidableEq, Repr

/-! ## The whole state -/

/-- The station, the commands waiting for it, and the station time in milliseconds. -/
structure State where
  now : Nat
  pending : List Instr
  /-- The model's own: how many equal-address free values have been drawn (assumption 4). -/
  tieDraws : Nat
  start : Startup
  cfg : Settings
  line : LineInterface
  pointer : TxClass
  rx : ReceiveQueue
  cars : List CarRecord
  lanterns : List Lantern
  chime : Chime
  keypad : Keypad
  entry : EntryController
  requests : RequestFile
  prompts : List PromptRecord
  releases : List ReleaseEntry
  showFifo : List ShowItem
  claim : ClaimHoldoff
  notices : NoticeStore
  recallLatch : RecallLatch
  display : Display
  power : PowerController
  status : StatusBlock
  deriving DecidableEq, Repr

/-- The seventeen keys: the matrix of 6.1. -/
def allKeys : List Key :=
  [.digit 0, .digit 1, .digit 2, .digit 3, .digit 4, .digit 5, .digit 6, .digit 7, .digit 8,
   .digit 9, .b, .l, .m, .s, .clr, .ok, .assist]

/-- The line interface as all three resets leave it (1.2). -/
def LineInterface.afterReset : LineInterface :=
  { watch := .off, receiving := false, tx := .off, faults := 0, mutedUntil := .none,
    attempt := .none, testStat := .none }

/-- The entry as all three resets and each return to IDLE leave it, with no prompt (R89, R104). -/
def EntryController.idle : EntryController :=
  { entering := false, buffer := [], cls := .standard, deadline := .none, prompt := .none }

/-- The power controller as all three resets leave it (R170). -/
def PowerController.afterReset : PowerController :=
  { mode := .active, night := false, idleDeadline := .none, drainDeadline := .none }

/-- Status as all three resets leave it: RESTARTED set and no other flag (R183). DESIGN CHOICE: the captured and
the recurred marks are clear, of which R183 gives no value (assumption 37). -/
def StatusBlock.afterReset : StatusBlock :=
  { slot := .none, flags := 1, captured := 0, recurred := 0, holdOff := .none,
    alertPending := false }

/-- The station right after a POWER_ON reset (R183), LOADING about to read the image. The manual
gives no value for the straps, the contacts and the timebase: assumption 1 (DESIGN CHOICE). -/
def State.reset : State where
  now := 0
  pending := []
  tieDraws := 0
  start :=
    { resetPinAsserted := false, supplyLow := false, addressPins := 0, ratePins := 0, address := 0,
      addressRefused := false, rateCode := 0, stage := .loading, cause := .powerOn,
      config := .none }
  cfg := Settings.none
  line := LineInterface.afterReset
  pointer := .req
  rx := { entries := [], congested := false }
  cars := []
  lanterns := []
  chime := { queue := [], player := .idle }
  keypad :=
    { keys := allKeys.map fun k =>
        { key := k, contact := false, reading := false, readingSince := 0, state := .up,
          stateSince := 0 }
      locked := false }
  entry := EntryController.idle
  requests := { entries := [], tagCounter := 1 }
  prompts := []
  releases := []
  showFifo := []
  claim := { lfsr := 1, claims := 0 }
  notices :=
    { urgent := { shown := .none, assembly := .none },
      info := { shown := .none, assembly := .none } }
  recallLatch :=
    { onContact := false, bypassContact := false, reading := .off, readingSince := 0,
      position := .off, latched := false }
  display := { regions := [], blinkOn := true }
  power := PowerController.afterReset
  status := StatusBlock.afterReset

/-- The faults a step can end in: none. Every event of the table has the effect the manual gives it,
in every state, so no meaning raises a fault. -/
inductive Fault where
  deriving DecidableEq, Repr

/-- Why a command has no meaning. -/
inductive Refusal where
  /-- Raised by an arm of `exec` whose command has no meaning yet (safe). No arm raises it. -/
  | notModelled (mnemonic : String)
  deriving DecidableEq, Repr

end Sys2Proof.Machine
end

