-- ==== Sys2Proof/Machine/Flags.lean ====
section
/-! DEFINITION. The change flags, their marks, and the alert test (R191, R192). -/

namespace Sys2Proof.Machine

/-- The 13 change flags (R191). -/
inductive Flag where
  | restarted | lineCheckError | rxOverrun | congestionEntered | carTableFull | promptDropped
  | requestTimeout | claimConflict | textDiscarded | txMuted | recallChanged | recallEndRefused
  | keyStuck
  deriving DecidableEq, Repr

/-- The bit of a flag in STAT and in the alert mask (12.1). -/
def flagBit : Flag → Nat
  | .restarted => 0
  | .lineCheckError => 1
  | .rxOverrun => 2
  | .congestionEntered => 3
  | .carTableFull => 4
  | .promptDropped => 5
  | .requestTimeout => 6
  | .claimConflict => 7
  | .textDiscarded => 8
  | .txMuted => 9
  | .recallChanged => 10
  | .recallEndRefused => 11
  | .keyStuck => 12

/-- The word with one flag set. -/
def flagWord (f : Flag) : BitVec 13 := BitVec.ofNat 13 (2 ^ flagBit f)

/-- Whether a word of flags holds a flag. -/
def hasFlag (w : BitVec 13) (f : Flag) : Bool := w.getLsbD (flagBit f)

/-- A STAT attempt is on the line. -/
def statInFlight (s : State) : Bool :=
  match s.line.attempt with
  | some a => a.item == .stat
  | none => false

/-- The alert hold-off still runs (R192). At the instant of its deadline it runs until ALERT_HOLD_OFF_DEADLINE
has made it absent: a passage that comes first there sets the pending mark (R193, line 3). -/
def holdOffRunning (now : Nat) (t : StatusBlock) : Bool :=
  match t.holdOff with
  | some d => decide (now ≤ d)
  | none => false

/-- The result of an alert test on the slot and the pending mark (the table of R192). -/
def alertSlot (now : Nat) (t : StatusBlock) : StatusBlock :=
  match t.slot with
  | some _ => t
  | none => if holdOffRunning now t then { t with alertPending := true } else { t with slot := some .alert }

/-- The alert test of a flag that passes to set: made from RUNNING on, for a flag of the mask, and
never at address 0 (R188, R192). -/
def alertTest (f : Flag) (s : State) : State :=
  if s.start.stage = .running ∧ s.start.address ≠ 0 ∧ hasFlag s.cfg.alertMask f then
    { s with status := alertSlot s.now s.status }
  else s

/-- An occurrence of a flag's condition (R191): the flag is set, its recurred mark is set while a STAT
is in flight, and a passage from clear to set makes the alert test. -/
def setFlag (f : Flag) (s : State) : State :=
  let marked :=
    { s with
      status :=
        { s.status with
          flags := s.status.flags ||| flagWord f
          recurred :=
            if statInFlight s then s.status.recurred ||| flagWord f else s.status.recurred } }
  if hasFlag s.status.flags f then marked else alertTest f marked

/-- Every flag, in the order of its bits. -/
def allFlags : List Flag :=
  [.restarted, .lineCheckError, .rxOverrun, .congestionEntered, .carTableFull, .promptDropped,
   .requestTimeout, .claimConflict, .textDiscarded, .txMuted, .recallChanged, .recallEndRefused,
   .keyStuck]

/-- The alert tests at the start of RUNNING, for every flag then set (R188). -/
def startupAlerts (s : State) : State :=
  allFlags.foldl (fun s f => if hasFlag s.status.flags f then alertTest f s else s) s

end Sys2Proof.Machine
end

