-- ==== Sys2Proof/Machine/Tracker.lean ====
section
/-! DEFINITION. The floor map's answers (chapter 2) and the position tracker (chapter 4). Every function
here is over the configuration and one car record. -/

namespace Sys2Proof.Machine

/-! ## The floor map -/

/-- The floor count N. -/
def floorCount (cfg : Settings) : Nat := cfg.floors.length

/-- The level of a floor; a floor outside the map has none and reads 0, which R37 and R28 keep from
being asked. -/
def levelOf (cfg : Settings) (f : Nat) : Int :=
  match cfg.floors[f]? with
  | some x => (x.level : Int)
  | none => 0

/-- Whether a floor may be shown as a car position. -/
def isDisplayable (cfg : Settings) (f : Nat) : Bool :=
  match cfg.floors[f]? with
  | some x => x.displayable
  | none => false

/-- The label of a floor index; none at N or above (R23). -/
def labelOf (cfg : Settings) (f : Nat) : List Nat :=
  match cfg.floors[f]? with
  | some x => x.label
  | none => []

/-- The floor whose label equals a text as a whole (R22). -/
def lookupText (cfg : Settings) (t : List Nat) : Option Nat :=
  cfg.floors.findIdx? fun x => x.label == t

/-- The groups that have a landing at a floor. -/
def servedAt (cfg : Settings) (f : Nat) : BitVec 8 :=
  match cfg.floors[f]? with
  | some x => x.served
  | none => 0

/-- The name of a car (R24). -/
def carName (cfg : Settings) (k : CarKey) : Nat :=
  cfg.carNames[k.group.val * 16 + k.car.val]?.getD 0

/-! ## The estimate (R51 to R54) -/

/-- The displacement: truncated toward zero, and 0 unless the car runs (R51, R52). -/
def displacement (now : Nat) (r : Report) : Int :=
  let e : Int := (min (now - r.stamp) Config.horizon : Nat)
  match r.motion with
  | .runUp => (r.speed * e).tdiv 1000
  | .runDown => (r.speed * e).tdiv 1000
  | .parked => 0
  | .levelling => 0

/-- The next-stop clamp (R53). -/
def nextStopClamp (cfg : Settings) (r : Report) (x : Int) : Int :=
  match r.nextStop, r.motion with
  | some s, .runUp => if (r.height : Int) ≤ levelOf cfg s then min x (levelOf cfg s) else x
  | some s, .runDown => if levelOf cfg s ≤ (r.height : Int) then max x (levelOf cfg s) else x
  | _, _ => x

/-- The map clamp (R54). -/
def mapClamp (cfg : Settings) (x : Int) : Int :=
  max (levelOf cfg 0) (min x (levelOf cfg (floorCount cfg - 1)))

/-- The estimate of a report at a station time. -/
def estimateOf (cfg : Settings) (now : Nat) (r : Report) : Int :=
  mapClamp cfg (nextStopClamp cfg r ((r.height : Int) + displacement now r))

/-! ## The indicated floor (R55 to R61) -/

/-- The number of switch points at or below a height (R56). -/
def countAt (cfg : Settings) (y : Int) : Nat :=
  (cfg.switchPoints.filter fun (p : Nat) => decide ((p : Int) ≤ y)).length

/-- Up steps (R58): at most `fuel` of them, and a map of N floors allows no more than N. -/
def upSteps (sw : List Nat) (h : Nat) (x : Int) : (fuel f : Nat) → Nat
  | 0, f => f
  | fuel + 1, f =>
    match sw[f]? with
    | some p => if (p : Int) + (h : Int) ≤ x then upSteps sw h x fuel (f + 1) else f
    | none => f

/-- Down steps (R58). -/
def downSteps (sw : List Nat) (h : Nat) (x : Int) : Nat → Nat
  | 0 => 0
  | f + 1 =>
    match sw[f]? with
    | some p => if x < (p : Int) - (h : Int) then downSteps sw h x f else f + 1
    | none => f + 1

/-- The nearest of the floors `i, i+1, …` to a height, the lower on equal distance, against the best
so far. -/
def nearestFrom (x : Int) : List Floor → (i best : Nat) → (dist : Nat) → Nat
  | [], _, best, _ => best
  | f :: fs, i, best, dist =>
    let d := ((f.level : Int) - x).natAbs
    if d < dist then nearestFrom x fs (i + 1) i d else nearestFrom x fs (i + 1) best dist

/-- The floor whose level is nearest a height (R59). -/
def nearestFloor (cfg : Settings) (x : Int) : Nat :=
  match cfg.floors with
  | [] => 0
  | f :: fs => nearestFrom x fs 1 0 ((f.level : Int) - x).natAbs

/-- The indicated floor of a report with a given estimate, from the one held (R56, R57). DESIGN CHOICE: an
evaluation made again at the instant at which the first found the floor absent goes by R59 or R60, as R56
says of the next one, though R50 and R62 let none change the record (assumption 27). -/
def indicatedFloor (cfg : Settings) (r : Report) (x : Int) : Option Nat → Nat
  | none => countAt cfg x
  | some f =>
    let up := upSteps cfg.switchPoints cfg.hysteresis x (floorCount cfg) f
    match r.motion, r.nextStop with
    | .runUp, _ => up
    | .runDown, _ => downSteps cfg.switchPoints cfg.hysteresis x f
    | .parked, _ => nearestFloor cfg x
    | .levelling, some s => s
    | .levelling, none => downSteps cfg.switchPoints cfg.hysteresis x up

/-! ## Decks and displayed floors (R63 to R65) -/

/-- A floor named for the lower deck, as one deck meets it: the upper deck stands one floor above
and exists only on a car of two decks, below the top of the map (R63, R73). -/
def forDeck (cfg : Settings) (deckCount : Nat) (deck : Deck) (f : Option Nat) : Option Nat :=
  match deck, f with
  | .lower, f => f
  | .upper, some f => if deckCount = 2 ∧ f + 1 < floorCount cfg then some (f + 1) else none
  | .upper, none => none

/-- The deck floor of a car record (R63). -/
def deckFloor (cfg : Settings) (c : CarRecord) (deck : Deck) : Option Nat :=
  match c.report with
  | some r => forDeck cfg r.deckCount deck c.floor
  | none => none

/-- The nearest displayable floor below `f`. -/
def displayableBelow (cfg : Settings) : Nat → Option Nat
  | 0 => none
  | f + 1 => if isDisplayable cfg f then some f else displayableBelow cfg f

/-- The nearest displayable floor above `f`. -/
def displayableAbove (cfg : Settings) (f : Nat) : Option Nat :=
  (List.range (floorCount cfg)).find? fun g => f < g && isDisplayable cfg g

/-- A displayed floor after an evaluation, from the region's deck floor and the one held (the table
of R64). -/
def displayedFloor (cfg : Settings) (deck held : Option Nat) : Option Nat :=
  match deck with
  | none => none
  | some f =>
    if isDisplayable cfg f then some f
    else
      match held with
      | some d => some d
      | none =>
        match displayableBelow cfg f with
        | some g => some g
        | none => displayableAbove cfg f

/-- The displayed floors of a car, one for each region of the configuration. -/
def shownFloors (cfg : Settings) (k : CarKey) (deckCount f : Nat) (held : List (Option Nat)) :
    List (Option Nat) :=
  cfg.regions.mapIdx fun i g =>
    match g.kind with
    | .position car deck =>
      if car = k then
        displayedFloor cfg (forDeck cfg deckCount deck (some f)) (held[i]?.getD none)
      else none
    | _ => none

/-- One evaluation of a car record at a station time (R49). A record without a report has nothing to
evaluate. -/
def evaluate (cfg : Settings) (now : Nat) (c : CarRecord) : CarRecord :=
  match c.report with
  | none => c
  | some r =>
    let x := estimateOf cfg now r
    let f := indicatedFloor cfg r x c.floor
    { c with
      estimate := some x
      floor := some f
      shown := shownFloors cfg c.key r.deckCount f c.shown }

end Sys2Proof.Machine
end

