-- ==== Sys2Proof/Machine/Lanterns.lean ====
section
/-! DEFINITION. The arrival lanterns and the chime queue (chapter 5), as operations over a record, a
lantern and the chime. -/

namespace Sys2Proof.Machine

/-! ## The chime -/

/-- The player takes an entry: its first tone sounds from now (R81). -/
def playEntry (now : Nat) (e : ChimeEntry) : Player := .tone e (e.strokes - 1) (now + Config.toneTime)

/-- The player takes the head of the queue, or is IDLE with the queue empty (R81). -/
def takeChime (now : Nat) (queue : List ChimeEntry) : Chime :=
  match queue with
  | [] => { queue := [], player := .idle }
  | e :: rest => { queue := rest, player := playEntry now e }

/-- The output of the entry playing. -/
def playing : Player → Option Nat
  | .idle => none
  | .tone e _ _ => some e.output
  | .gap e _ _ => some e.output
  | .spacing _ => none

/-- A chime request (R80): dropped as a duplicate or at a full queue, else it joins, and an IDLE player
takes it at once. -/
def requestChime (now : Nat) (e : ChimeEntry) (c : Chime) : Chime :=
  if playing c.player = some e.output ∨ (c.queue.any fun q => q.output == e.output)
      ∨ Config.chimeCapacity ≤ c.queue.length then c
  else
    match c.player with
    | .idle => takeChime now (c.queue ++ [e])
    | _ => { c with queue := c.queue ++ [e] }

/-- The waiting entry of a lantern gone DARK leaves the queue (R82). -/
def dropChime (output : Nat) (c : Chime) : Chime :=
  { c with queue := c.queue.filter fun q => q.output != output }

/-- The chime after DORMANT entry and after each reset (R83). -/
def silentChime : Chime := { queue := [], player := .idle }

/-! ## Reading a car for one deck (R73) -/

/-- The level the deck estimate is compared with. -/
def targetLevel (cfg : Settings) (e : LanternEntry) : Int :=
  match e.deck with
  | .lower => levelOf cfg e.landing
  | .upper => levelOf cfg (e.landing - 1)

/-- The car's motion is toward the landing. -/
def movesToward (m : Motion) (x target : Int) : Bool :=
  match m with
  | .runUp => x ≤ target
  | .runDown => target ≤ x
  | .levelling => true
  | .parked => false

/-- The door is OPENING or OPEN. -/
def doorOpens (d : Door) : Bool := d == .opening || d == .opened

/-- The motion is PARKED or LEVELLING. -/
def standsStill (m : Motion) : Bool := m == .parked || m == .levelling

/-- The motion is RUN_UP or RUN_DOWN. -/
def runs (m : Motion) : Bool := m == .runUp || m == .runDown

/-- The approach case of R74. -/
def approaches (cfg : Settings) (e : LanternEntry) (c : CarRecord) (r : Report) : Bool :=
  match c.estimate with
  | some x =>
    forDeck cfg r.deckCount e.deck r.nextStop == some e.landing
      && movesToward r.motion x (targetLevel cfg e)
      && (targetLevel cfg e - x).natAbs ≤ cfg.lanternLead
  | none => false

/-- The standing case of R74. -/
def standsAt (cfg : Settings) (e : LanternEntry) (c : CarRecord) (r : Report) : Bool :=
  standsStill r.motion && deckFloor cfg c e.deck == some e.landing && doorOpens r.door

/-- The lighting conditions (R74). -/
def lights (cfg : Settings) (mode : PowerMode) (e : LanternEntry) (c : CarRecord) : Bool :=
  match c.report with
  | some r =>
    c.freshness == .live && r.service == .normal && mode != .dormant
      && r.committed == some e.direction && (approaches cfg e c r || standsAt cfg e c r)
  | none => false

/-- The darkening conditions (R77), but for entry into DORMANT, which darkens every lantern. -/
def darkens (cfg : Settings) (l : Lantern) (c : CarRecord) : Bool :=
  match c.report with
  | some r =>
    (r.door == .closed && l.doorSeen) || c.freshness != .live || r.service != .normal
      || r.committed != some l.entry.direction
      || (forDeck cfg r.deckCount l.entry.deck r.nextStop != some l.entry.landing
          && deckFloor cfg c l.entry.deck != some l.entry.landing)
  | none => true

/-- The record is LIVE with its door OPENING or OPEN: what sets the door-seen mark (R75, R76). -/
def doorSeenNow (c : CarRecord) : Bool :=
  match c.report with
  | some r => c.freshness == .live && doorOpens r.door
  | none => false

/-- The strokes of a lantern's chime: 1 for UP, 2 for DOWN (R75). -/
def strokesOf : Dir → Nat
  | .up => 1
  | .down => 2

/-- One test of one lantern against its car's record (R72), with the chime it leaves. -/
def testLantern (cfg : Settings) (mode : PowerMode) (now : Nat) (c : CarRecord) (chime : Chime)
    (l : Lantern) : Lantern × Chime :=
  if l.lit then
    if darkens cfg l c then
      ({ l with lit := false, doorSeen := false }, dropChime l.entry.output chime)
    else ({ l with doorSeen := l.doorSeen || doorSeenNow c }, chime)
  else if lights cfg mode l.entry c then
    ({ l with lit := true, doorSeen := doorSeenNow c },
      requestChime now { output := l.entry.output, strokes := strokesOf l.entry.direction } chime)
  else (l, chime)

/-- The record of a car. -/
def findCar (cars : List CarRecord) (k : CarKey) : Option CarRecord := cars.find? fun c => c.key == k

/-- The test of every lantern of the selected cars, in the entries' order (assumption 6). A lantern
whose car has no record is left as it is: R71 keeps that from arising. -/
def testLanternList (cfg : Settings) (mode : PowerMode) (now : Nat) (cars : List CarRecord)
    (sel : CarKey → Bool) : List Lantern → Chime → List Lantern × Chime
  | [], chime => ([], chime)
  | l :: ls, chime =>
    let step :=
      if sel l.entry.car then
        match findCar cars l.entry.car with
        | some c => testLantern cfg mode now c chime l
        | none => (l, chime)
      else (l, chime)
    let rest := testLanternList cfg mode now cars sel ls step.2
    (step.1 :: rest.1, rest.2)

/-- The lantern tests of the selected cars, in the state. -/
def testLanterns (sel : CarKey → Bool) (s : State) : State :=
  let r := testLanternList s.cfg s.power.mode s.now s.cars sel s.lanterns s.chime
  { s with lanterns := r.1, chime := r.2 }

/-- Every lantern DARK, as entry into DORMANT leaves them (R77). -/
def darkenAll (ls : List Lantern) : List Lantern :=
  ls.map fun l => { l with lit := false, doorSeen := false }

end Sys2Proof.Machine
end

