-- ==== Sys2Proof/Machine/Formats.lean ====
section
/-! DEFINITION. Chapter 12: the fields of payloads, the kinds, the CRC, and telegrams as frames. -/

namespace Sys2Proof.Machine

/-! ## Bytes -/

/-- Byte `i` of a payload or image as a number; a byte past the end reads 0 and is never reached by
a telegram that passed R3. -/
def byteAt (p : List Byte) (i : Nat) : Nat := (p[i]?.getD 0).toNat

/-- Two bytes from `i`, most significant first. -/
def wordAt (p : List Byte) (i : Nat) : Nat := byteAt p i * 256 + byteAt p (i + 1)

/-- Three bytes from `i`, most significant first. -/
def tripleAt (p : List Byte) (i : Nat) : Nat := wordAt p i * 256 + byteAt p (i + 2)

/-- A byte of a telegram the station builds. -/
def byteOf (n : Nat) : Byte := BitVec.ofNat 8 n

/-- A two-byte field, most significant byte first. -/
def wordBytes (n : Nat) : List Byte := [byteOf (n / 256), byteOf n]

/-- A car key: the group in bits 6..4 and the car in bits 3..0; bit 7 is not read (12.1). -/
def carKeyOf (b : Nat) : CarKey := { group := Fin.ofNat 8 (b / 16), car := Fin.ofNat 16 b }

/-! ## Kinds -/

/-- The kind codes of 12.1. -/
def kindOfCode : Nat → Option Kind
  | 1 => some .notice
  | 2 => some .wake
  | 3 => some .car
  | 4 => some .assign
  | 5 => some .shows
  | 6 => some .req
  | 7 => some .stops
  | 8 => some .stat
  | 9 => some .query
  | _ => none

/-- The code of a kind (12.1). -/
def kindCode : Kind → Nat
  | .notice => 1
  | .wake => 2
  | .car => 3
  | .assign => 4
  | .shows => 5
  | .req => 6
  | .stops => 7
  | .stat => 8
  | .query => 9

/-- The priority of a kind (the kind table of 1.1). -/
def kindPriority : Kind → Nat
  | .notice => 0
  | .wake => 0
  | .car => 1
  | .assign => 2
  | .shows => 3
  | .req => 3
  | .stops => 4
  | .stat => 6
  | .query => 7

/-- The fixed part of a kind, in bytes (12.1). -/
def fixedPart : Kind → Nat
  | .notice => 4
  | .wake => 5
  | .car => 12
  | .assign => 10
  | .shows => 5
  | .req => 6
  | .stops => 1
  | .stat => 12
  | .query => 2

/-! ## CRC (R195) -/

/-- One bit into the CRC register: generator x^16 + x^12 + x^5 + 1, most significant bit first. -/
def crcStep (r : BitVec 16) (b : Bool) : BitVec 16 :=
  if (r.msb ^^ b) then (r <<< 1) ^^^ 0x1021#16 else r <<< 1

/-- The CRC of a bit sequence, the register seeded to all ones, with no final inversion. -/
def crc16 (bits : List Bool) : BitVec 16 := bits.foldl crcStep 0xFFFF#16

/-- The bits of bytes, most significant first. -/
def bitsOfBytes (p : List Byte) : List Bool := p.flatMap fun b => bitsOf 8 b.toNat

/-- The bits the line CRC runs over: from the first priority bit through the last payload bit. -/
def frameBits (f : Frame) : List Bool :=
  bitsOf 3 f.priority.toNat ++ bitsOf 7 f.source.toNat ++ bitsOf 4 f.kind.toNat
    ++ bitsOf 5 f.length.toNat ++ bitsOfBytes f.payload

/-- The bits of a telegram as they are sent: the CRC's sixteen bits follow the last payload bit, most
significant first (R195). -/
def telegramBits (f : Frame) : List Bool := frameBits f ++ bitsOf 16 f.crc.toNat

/-- A receiver's register run through the CRC bits as well finds zero (R195). -/
def registerFindsZero (f : Frame) : Bool := crc16 (telegramBits f) == 0

/-- A telegram with the CRC its other parts give it. -/
def sealFrame (f : Frame) : Frame := { f with crc := crc16 (frameBits f) }

/-- The telegram of a kind, source and payload, with the kind's priority (R1). -/
def makeFrame (k : Kind) (source : Nat) (payload : List Byte) : Frame :=
  sealFrame
    { priority := BitVec.ofNat 3 (kindPriority k)
      source := BitVec.ofNat 7 source
      kind := BitVec.ofNat 4 (kindCode k)
      length := BitVec.ofNat 5 payload.length
      payload := payload
      crc := 0 }

/-! ## Levels on the line (R197) -/

/-- The two levels of the line (R2). -/
inductive LineLevel where
  | dominant | recessive
  deriving DecidableEq, Repr

/-- One bit in quarters of T: a 0 is dominant for three quarters and a 1 for the first (R197). -/
def bitQuarters : Bool → List LineLevel
  | false => [.dominant, .dominant, .dominant, .recessive]
  | true => [.dominant, .recessive, .recessive, .recessive]

/-- The bit read at T/2, which begins the third quarter (R197). -/
def sampleBit (q : List LineLevel) : Bool := q[2]? == some .recessive

/-- The line under several senders: dominant where any of them drives dominant (R2). -/
def wiredAnd (a b : LineLevel) : LineLevel := if a = .dominant then .dominant else b

/-! ## The checks of a received telegram (R3) -/

/-- The kind of a telegram that passes the checks of R3: CRC, length at most 24, a known kind, the
kind's fixed part, and as many payload bytes as its length says. The priority is not checked (R1),
nor the source address (R2). -/
def checkedKind (f : Frame) : Option Kind :=
  match kindOfCode f.kind.toNat with
  | none => none
  | some k =>
    if f.payload.length = f.length.toNat ∧ f.length.toNat ≤ 24 ∧ fixedPart k ≤ f.length.toNat
        ∧ f.crc = crc16 (frameBits f) then
      some k
    else none

end Sys2Proof.Machine
end

