-- ==== Sys2Proof/Machine/Operands.lean ====
section
/-! DEFINITION. The fields a block reads from a telegram it takes, with that block's field checks: a code
a table of 12.1 does not list names no value and fails its check (R194). -/

namespace Sys2Proof.Machine

/-- Motion codes (12.1). -/
def motionOf : Nat → Option Motion
  | 0 => some .parked
  | 1 => some .runUp
  | 2 => some .runDown
  | 3 => some .levelling
  | _ => none

/-- Committed-direction codes (12.1): 0 names NONE. -/
def committedOf : Nat → Option (Option Dir)
  | 0 => some none
  | 1 => some (some .up)
  | 2 => some (some .down)
  | _ => none

/-- Door codes (12.1). -/
def doorOf : Nat → Option Door
  | 0 => some .closed
  | 1 => some .opening
  | 2 => some .opened
  | 3 => some .closing
  | _ => none

/-- Service codes (12.1). -/
def serviceOf : Nat → Option Service
  | 0 => some .normal
  | 1 => some .independent
  | 2 => some .fireRecall
  | 3 => some .fireService
  | 4 => some .inspection
  | 5 => some .outOfService
  | _ => none

/-- Result codes (12.1). -/
def resultOf : Nat → Option Result
  | 0 => some .assigned
  | 1 => some .notServed
  | 2 => some .unavailable
  | _ => none

/-- Class codes (12.1). -/
def classOf : Nat → Option ReqClass
  | 0 => some .standard
  | 1 => some .accessible
  | _ => none

/-- Deck codes of an ASSIGN (12.1): 0 names none. -/
def deckOf : Nat → Option (Option Deck)
  | 0 => some none
  | 1 => some (some .lower)
  | 2 => some (some .upper)
  | _ => none

/-- Slot codes (12.1). -/
def slotOf : Nat → Option Slot
  | 0 => some .urgent
  | 1 => some .info
  | _ => none

/-! ## CAR and STOPS -/

/-- The reported speed: bits 14..0 of the speed word in two's complement (12.1). -/
def speedOf (w : Nat) : Int :=
  let v := w % 32768
  if v < 16384 then (v : Int) else (v : Int) - 32768

/-- The next stop: held when bit 15 of the speed word is set and the byte is a floor of the map (R37). -/
def nextStopOf (n w byte : Nat) : Option Nat :=
  if 32768 ≤ w ∧ byte < n then some byte else none

/-- The reported fields of a CAR that passes R34, for a map of `n` floors; the speed is clamped (R36)
and the next stop treated (R37). -/
def reportOf (n : Nat) (e : RxEntry) : Option Report :=
  let p := e.payload
  let w := wordAt p 5
  match motionOf (byteAt p 8), committedOf (byteAt p 9), doorOf (byteAt p 10),
      serviceOf (byteAt p 11) with
  | some m, some c, some d, some v =>
    if (byteAt p 1 = 1 ∨ byteAt p 1 = 2) ∧ tripleAt p 2 ≤ 1048575 then
      some
        { deckCount := byteAt p 1
          height := tripleAt p 2
          speed := clampInt (-Config.speedLimit) Config.speedLimit (speedOf w)
          motion := m
          committed := c
          door := d
          service := v
          nextStop := nextStopOf n w (byteAt p 7)
          stamp := e.stamp }
    else none
  | _, _, _, _ => none

/-- The normalised stop list of a STOPS (R44): indices below `n`, each once, ascending, the 16
lowest. -/
def stopListOf (n : Nat) (p : List Byte) : List Nat :=
  let sent := (p.drop 1).map BitVec.toNat
  ((List.range n).filter fun f => sent.contains f).take Config.stopCapacity

/-! ## ASSIGN and SHOW -/

/-- A checked ASSIGN. -/
structure AssignFields where
  key : AssignKey
  result : Result
  dest : Nat
  cls : ReqClass
  car : CarKey
  deck : Option Deck
  validity : Nat
  deriving DecidableEq, Repr

/-- The fields of an ASSIGN that passes R98; the deck is read for ASSIGNED only. DESIGN CHOICE: R98 discards the
kiosk addresses 0 and 127 alone, so 128..255, which R107 gives no key, name a key here (assumption 28). -/
def assignOf (n : Nat) (p : List Byte) : Option AssignFields :=
  let tag := wordAt p 2
  let kiosk := byteAt p 1
  match resultOf (byteAt p 4), classOf (byteAt p 6) with
  | some r, some c =>
    if tag ≠ 0 ∧ kiosk ≠ 0 ∧ kiosk ≠ 127 ∧ byteAt p 5 < n ∧
        (r = .assigned → (deckOf (byteAt p 8)).isSome) then
      some
        { key := { kiosk := kiosk, tag := tag }
          result := r
          dest := byteAt p 5
          cls := c
          car := carKeyOf (byteAt p 7)
          deck := if r = .assigned then (deckOf (byteAt p 8)).getD none else none
          validity := byteAt p 9 }
    else none
  | _, _ => none

/-- SHOW actions (12.1). -/
inductive ShowAction where
  | take | release
  deriving DecidableEq, Repr

/-- SHOW action codes (12.1). -/
def showActionOf : Nat → Option ShowAction
  | 1 => some .take
  | 2 => some .release
  | _ => none

/-- The action and key of a SHOW that passes R119. DESIGN CHOICE: as in `assignOf`, a kiosk address of 128..255
names a key (assumption 28). -/
def showOf (p : List Byte) : Option (ShowAction × AssignKey) :=
  match showActionOf (byteAt p 1) with
  | some a =>
    if wordAt p 3 ≠ 0 ∧ byteAt p 2 ≠ 0 ∧ byteAt p 2 ≠ 127 then
      some (a, { kiosk := byteAt p 2, tag := wordAt p 3 })
    else none
  | none => none

/-! ## NOTICE, WAKE and QUERY -/

/-- The notice kinds. -/
inductive NoticeKind where
  | recallStart | recallEnd | text | textClear | night | day
  deriving DecidableEq, Repr

/-- Notice kind codes (12.1). -/
def noticeKindOf : Nat → Option NoticeKind
  | 1 => some .recallStart
  | 2 => some .recallEnd
  | 3 => some .text
  | 4 => some .textClear
  | 5 => some .night
  | 6 => some .day
  | _ => none

/-- A checked TEXT part. -/
structure TextPart where
  slot : Slot
  id : Nat
  index : Nat
  count : Nat
  chars : List Nat
  deriving DecidableEq, Repr

/-- The fields of a TEXT that passes R134 and R194. -/
def textPartOf (p : List Byte) : Option TextPart :=
  match slotOf (byteAt p 4) with
  | some t =>
    if 8 ≤ p.length ∧ p.length - 8 ≤ 16 ∧ byteAt p 6 ≤ 3 ∧ 1 ≤ byteAt p 7 ∧ byteAt p 7 ≤ 4 then
      some
        { slot := t
          id := byteAt p 5
          index := byteAt p 6
          count := byteAt p 7
          chars := (p.drop 8).map BitVec.toNat }
    else none
  | none => none

/-- The slot and text id of a TEXT_CLEAR that passes R134 and R194. -/
def textClearOf (p : List Byte) : Option (Slot × Nat) :=
  match slotOf (byteAt p 4) with
  | some t => if 6 ≤ p.length then some (t, byteAt p 5) else none
  | none => none

/-- WAKE actions. -/
inductive WakeAction where
  | sleep | wake
  deriving DecidableEq, Repr

/-- WAKE action codes (12.1). -/
def wakeActionOf : Nat → Option WakeAction
  | 1 => some .sleep
  | 2 => some .wake
  | _ => none

/-- QUERY actions. -/
inductive QueryAction where
  | status | restart
  deriving DecidableEq, Repr

/-- QUERY action codes (12.1). -/
def queryActionOf : Nat → Option QueryAction
  | 1 => some .status
  | 2 => some .restart
  | _ => none

end Sys2Proof.Machine
end

