-- ==== Sys2Proof/Machine/Ops.lean ====
section
/-! DEFINITION. The shared operations over the state: the station's jobs, the receive queue and its
filter, the power controller, the SHOW FIFO, the prompt table, and the recall latch. -/

namespace Sys2Proof.Machine

/-! ## What the station is doing -/

/-- RUNNING, safe mode included. -/
def running (s : State) : Bool := s.start.stage == .running

/-- The status is REJECTED. -/
def rejected (s : State) : Bool := s.start.config == some .rejected

/-- RUNNING with a configuration status of OK or PARTIAL. -/
def serving (s : State) : Bool :=
  running s && (s.start.config == some .ok || s.start.config == some .partially)

/-- The station has a surviving BOARD region (R107). -/
def boardStation (cfg : Settings) : Bool := cfg.regions.any fun g => g.kind == .board

/-- The station has the kiosk job: a surviving KIOSK region (chapter 6). -/
def kioskJob (cfg : Settings) : Bool := cfg.regions.any fun g => g.kind == .kiosk

/-- The power state is ACTIVE or DIM. -/
def awake (m : PowerMode) : Bool := m == .active || m == .dim

/-- The power state is DRAINING or DORMANT. -/
def asleep (m : PowerMode) : Bool := m == .draining || m == .dormant

/-- A deadline that is present and has been reached by the station time passes. -/
def passed (now : Nat) : Option Nat → Bool
  | some d => decide (d ≤ now)
  | none => false

/-! ## The acceptance filter (R12, R13, R177, R186) -/

/-- The group of a car is among the station groups. -/
def inGroups (cfg : Settings) (k : CarKey) : Bool := cfg.groups.getLsbD k.group.val

/-- The scope test of a notice or broadcast wake (R13). -/
def inScope (cfg : Settings) (mask lo hi : Nat) : Bool :=
  (cfg.groups &&& BitVec.ofNat 8 mask) != 0 &&
    match cfg.homeFloor with
    | none => true
    | some h => lo ≤ h && h ≤ hi

/-- The car is pinned in the car table. -/
def isPinned (s : State) (k : CarKey) : Bool := s.cars.any fun c => c.key == k && c.pinned

/-- The target is the station's own non-zero address. -/
def targetsOwn (s : State) (target : Nat) : Bool := target == s.start.address && target != 0

/-- The lobby floor of an ASSIGN or SHOW is the home floor. -/
def atHome (cfg : Settings) (lobby : Nat) : Bool := cfg.homeFloor == some lobby

/-- The notices DORMANT admits: RECALL, DAY, and TEXT parts of slot URGENT (R177). -/
def dormantAdmits (p : List Byte) : Bool :=
  match noticeKindOf (byteAt p 0) with
  | some .recallStart => true
  | some .day => true
  | some .text => 5 ≤ p.length && slotOf (byteAt p 4) == some .urgent
  | _ => false

/-- The acceptance filter of a station that is not in safe mode: the table of R12, narrowed by R177. -/
def admitsServing (s : State) (k : Kind) (p : List Byte) : Bool :=
  let mode := s.power.mode
  match k with
  | .car =>
    inGroups s.cfg (carKeyOf (byteAt p 0)) && (mode != .dormant || isPinned s (carKeyOf (byteAt p 0)))
  | .stops =>
    inGroups s.cfg (carKeyOf (byteAt p 0)) && mode != .dormant
      && (!s.rx.congested || isPinned s (carKeyOf (byteAt p 0)))
  | .assign =>
    awake mode && atHome s.cfg (byteAt p 0) && (kioskJob s.cfg || boardStation s.cfg)
  | .shows => mode != .dormant && atHome s.cfg (byteAt p 0) && boardStation s.cfg
  | .notice =>
    inScope s.cfg (byteAt p 1) (byteAt p 2) (byteAt p 3) && (mode != .dormant || dormantAdmits p)
  | .wake =>
    targetsOwn s (byteAt p 0)
      || (byteAt p 0 == 127 && inScope s.cfg (byteAt p 2) (byteAt p 3) (byteAt p 4))
  | .query => awake mode && (targetsOwn s (byteAt p 0) || byteAt p 0 == 127)
  | .req => false
  | .stat => false

/-- The acceptance filter. In safe mode it admits only a QUERY to the station or to 127 (R186). -/
def admits (s : State) (k : Kind) (p : List Byte) : Bool :=
  if rejected s then k == .query && (targetsOwn s (byteAt p 0) || byteAt p 0 == 127)
  else admitsServing s k p

/-! ## The receive queue (R14 to R17) -/

/-- The entry is a CAR report of a car. -/
def isReportOf (k : CarKey) (e : RxEntry) : Bool :=
  e.kind == .car && carKeyOf (byteAt e.payload 0) == k

/-- A CAR entry's payload and stamp replaced in place by a newer report's (R15). -/
def mergeReport (e : RxEntry) (q : List RxEntry) : List RxEntry :=
  q.map fun w =>
    if isReportOf (carKeyOf (byteAt e.payload 0)) w then
      { w with payload := e.payload, stamp := e.stamp }
    else w

/-- The new telegram merges into a waiting CAR entry (R15). -/
def merges (e : RxEntry) (q : List RxEntry) : Bool :=
  e.kind == .car && q.any (isReportOf (carKeyOf (byteAt e.payload 0)))

/-- An admitted telegram joins the queue, merges, or is lost to overrun (R15 to R17). -/
def arrive (e : RxEntry) (s : State) : State :=
  if merges e s.rx.entries then { s with rx := { s.rx with entries := mergeReport e s.rx.entries } }
  else if Config.rxCapacity ≤ s.rx.entries.length then setFlag .rxOverrun s
  else
    let entries := s.rx.entries ++ [e]
    if Config.congestedAt ≤ entries.length ∧ s.rx.congested = false then
      setFlag .congestionEntered { s with rx := { entries := entries, congested := true } }
    else { s with rx := { s.rx with entries := entries } }

/-- The queue when its head has been taken: congested ends at an occupancy of 8 (R14, R17). -/
def takenQueue (rest : List RxEntry) (q : ReceiveQueue) : ReceiveQueue :=
  { entries := rest
    congested := q.congested && decide (Config.congestionEndsAt < rest.length) }

/-! ## The power controller (chapter 10) -/

/-- The idle deadline set anew (R173): absent for ever with a delay of 0. -/
def restartIdle (s : State) : State :=
  if s.cfg.dormantDelay = 0 then s
  else
    { s with power := { s.power with idleDeadline := some (s.now + s.cfg.dormantDelay * 60000) } }

/-- A region at the beginning of a scroll pass (R163). -/
def beginPass (now : Nat) (v : RegionView) : RegionView :=
  { v with offset := 0, deadline := some (now + Config.scrollPause), stepping := false }

/-- A region with no pass running, as DORMANT holds it (R166). -/
def haltPass (v : RegionView) : RegionView := { v with offset := 0, deadline := none, stepping := false }

/-- Every region begins a pass (R152, R166). -/
def beginPasses (s : State) : State :=
  { s with display := { s.display with regions := s.display.regions.map (beginPass s.now) } }

/-- The station leaves DRAINING or DORMANT to a power state (R178): the drain deadline goes, the idle
deadline is restarted, the entry controller starts from IDLE with no prompt (R103), and on leaving DORMANT each
region begins a pass. -/
def leaveSleep (mode : PowerMode) (s : State) : State :=
  let woken := if s.power.mode = .dormant then beginPasses s else s
  restartIdle
    { woken with
      power := { woken.power with mode := mode, drainDeadline := none }
      entry := EntryController.idle }

/-- A wake source other than DAY (R178). -/
def wakeSource (s : State) : State := if asleep s.power.mode then leaveSleep .dim s else s

/-- An activity (R173). -/
def activity (s : State) : State := restartIdle s

/-! ## The SHOW FIFO (1.3, R117) -/

/-- The item is the SHOW TAKE of the record of a key; a withdrawn one is that of a record that has left. -/
def isTakeOf (k : AssignKey) (i : ShowItem) : Bool := i.act != .release && i.key == k && !i.withdrawn

/-- The item is the SHOW RELEASE of the entry of a key; a withdrawn one is that of an entry that has left. -/
def isReleaseOf (k : AssignKey) (i : ShowItem) : Bool := i.act == .release && i.key == k && !i.withdrawn

/-- The FIFO as the owner of some of its items leaves: an item that waits is removed, and one on the line stays,
withdrawn (R9, R112, R126, R129). -/
def ownerLeaves (its : ShowItem → Bool) (q : List ShowItem) : List ShowItem :=
  (q.filter fun i => !(its i && !i.onLine)).map fun i => if its i then { i with withdrawn := true } else i

/-- The FIFO without the TAKE items of a key that wait in it; one on the line stays (R117). -/
def dropWaitingTakes (k : AssignKey) (q : List ShowItem) : List ShowItem :=
  q.filter fun i => !(isTakeOf k i && !i.onLine)

/-- A TAKE of the key is in the FIFO. -/
def hasTake (k : AssignKey) (q : List ShowItem) : Bool := q.any (isTakeOf k)

/-! ## The prompt table (chapter 7) -/

/-- The record of a key. -/
def findPrompt (ps : List PromptRecord) (k : AssignKey) : Option PromptRecord :=
  ps.find? fun p => p.key == k

/-- The records of a key changed by a function. -/
def updatePrompt (k : AssignKey) (f : PromptRecord → PromptRecord) (ps : List PromptRecord) :
    List PromptRecord :=
  ps.map fun p => if p.key = k then f p else p

/-- A record leaves the table: its holdoff ends with it, a TAKE of it that waits is removed, and the outcome of one
on the line finds no record (R112, R126). -/
def removePrompt (k : AssignKey) (s : State) : State :=
  { s with
    prompts := s.prompts.filter fun p => p.key != k
    showFifo := ownerLeaves (isTakeOf k) s.showFifo }

/-- The key is in the release buffer. -/
def inReleases (k : AssignKey) (rs : List ReleaseEntry) : Bool := rs.any fun r => r.key == k

/-- An entry leaves the release buffer: a RELEASE of it that waits is removed, and the WON of one on the line finds
no entry (R129). -/
def removeRelease (k : AssignKey) (s : State) : State :=
  { s with
    releases := s.releases.filter fun r => r.key != k
    showFifo := ownerLeaves (isReleaseOf k) s.showFifo }

/-- A record counts as reserved without being Owned (R113). -/
def reservesRow (p : PromptRecord) : Bool :=
  p.board == .owned || p.holdoff.isSome || p.takeQueued

/-- The reserved rows (R113). -/
def reservedRows (s : State) : Nat := (s.prompts.filter reservesRow).length + s.releases.length

/-- One step of the LFSR (R116). -/
def lfsrStep (l : BitVec 16) : BitVec 16 :=
  if l.getLsbD 0 then (l >>> 1) ^^^ Config.lfsrTaps else l >>> 1

/-- The seed of a POWER_ON or PIN reset (R116). -/
def lfsrSeed (address : Nat) : BitVec 16 := BitVec.ofNat 16 (address * 257 + 1)

/-- The affinity rank of a kiosk: the lowest listed, 7 when not listed (R115). -/
def affinityRank (cfg : Settings) (kiosk : Nat) : Nat :=
  cfg.affinity.foldl (fun r e => if e.1 = kiosk then min r e.2 else r) Config.unlistedRank

/-- The length of a holdoff from the LFSR value just produced (R115). -/
def holdoffLength (cfg : Settings) (kiosk : Nat) (l : BitVec 16) : Nat :=
  affinityRank cfg kiosk * cfg.holdoffBase + l.toNat % cfg.holdoffBase

/-- The record may start a holdoff (R114). -/
def holdoffEligible (p : PromptRecord) : Bool :=
  p.board == .pending && p.holdoff.isNone && !p.takeQueued

/-- Holdoffs for the oldest eligible records, each stepping the LFSR once, while the reserved rows are
below the row count (R114, R115). -/
def startHoldoffs (cfg : Settings) (now : Nat) : (reserved : Nat) → BitVec 16 → List PromptRecord →
    List PromptRecord × BitVec 16
  | _, l, [] => ([], l)
  | reserved, l, p :: ps =>
    if holdoffEligible p ∧ reserved < cfg.rowCount then
      let l' := lfsrStep l
      let rest := startHoldoffs cfg now (reserved + 1) l' ps
      ({ p with holdoff := some (now + holdoffLength cfg p.key.kiosk l') } :: rest.1, rest.2)
    else
      let rest := startHoldoffs cfg now reserved l ps
      (p :: rest.1, rest.2)

/-- The terms of R114 that are not about a record. -/
def holdoffsAllowed (s : State) : Bool :=
  boardStation s.cfg && awake s.power.mode && !s.recallLatch.latched && !s.rx.congested

/-- The holdoff start test (R114). -/
def holdoffTest (s : State) : State :=
  if holdoffsAllowed s then
    let r := startHoldoffs s.cfg s.now (reservedRows s) s.claim.lfsr s.prompts
    { s with prompts := r.1, claim := { s.claim with lfsr := r.2 } }
  else s

/-- The first record an eviction may take: the oldest Watched with its mark clear, else the oldest
Pending with no holdoff and its mark clear (R111). -/
def evictable (ps : List PromptRecord) : Option PromptRecord :=
  match ps.find? fun p => p.board == .watched && !p.takeQueued with
  | some p => some p
  | none => ps.find? holdoffEligible

/-- A record joins the table as its newest; a full table evicts one record or does not make the new one
(R111). -/
def joinPrompt (p : PromptRecord) (s : State) : State :=
  if s.prompts.length < Config.promptCapacity then { s with prompts := s.prompts ++ [p] }
  else
    match evictable s.prompts with
    | some v => setFlag .promptDropped { removePrompt v.key s with prompts := (removePrompt v.key s).prompts ++ [p] }
    | none => setFlag .promptDropped s

/-- A record that becomes Owned now: it joins the rows as the bottom row (R118). -/
def own (now order : Nat) (p : PromptRecord) : PromptRecord :=
  { p with
    board := .owned
    claimant := none
    reassertDone := false
    claimTime := some now
    claimOrder := order }

/-- The record of a key becomes Owned. -/
def ownPrompt (k : AssignKey) (s : State) : State :=
  { s with
    prompts := updatePrompt k (own s.now s.claim.claims) s.prompts
    claim := { s.claim with claims := s.claim.claims + 1 } }

/-- The claim of `p` is older than that of `q`: by claim time, and within a millisecond by the order in
which the claims were made. -/
def claimedBefore (p q : PromptRecord) : Bool :=
  p.claimTime.getD 0 < q.claimTime.getD 0
    || (p.claimTime.getD 0 == q.claimTime.getD 0 && p.claimOrder ≤ q.claimOrder)

/-- A record put in its place among rows in claim order. -/
def insertRow (p : PromptRecord) : List PromptRecord → List PromptRecord
  | [] => [p]
  | q :: qs => if claimedBefore p q then p :: q :: qs else q :: insertRow p qs

/-- The rows of the board: the Owned records in claim order, oldest first (R127). -/
def rowsOf (ps : List PromptRecord) : List PromptRecord :=
  (ps.filter fun p => p.board == .owned).foldr insertRow []

/-- A claim to be withdrawn: its key joins the release buffer and its RELEASE the FIFO (R128). -/
def bufferRelease (deadline : Nat) (k : AssignKey) (s : State) : State :=
  { s with
    releases := s.releases ++ [{ key := k, deadline := deadline }]
    showFifo := s.showFifo ++ [{ act := .release, key := k, onLine := false }] }

/-- What a phase test makes of a record: `none` when it is retired (R125, R126). -/
def phaseOutcome (cfg : Settings) (cars : List CarRecord) (p : PromptRecord) : Option PromptRecord :=
  match findCar cars p.car with
  | some c =>
    match c.report with
    | some r =>
      if c.freshness = .live then
        match p.phase with
        | .waiting =>
          if deckFloor cfg c (p.deck.getD .lower) = cfg.homeFloor ∧ cfg.homeFloor.isSome
              ∧ standsStill r.motion ∧ doorOpens r.door then
            some { p with phase := .boarding }
          else some p
        | .boarding => if runs r.motion then none else some p
      else some p
    | none => some p
  | none => some p

/-- The phase tests of the selected records (R125, R126). -/
def phaseTests (sel : PromptRecord → Bool) (s : State) : State :=
  let retired :=
    s.prompts.filter fun p => sel p && (phaseOutcome s.cfg s.cars p).isNone
  { s with
    prompts := s.prompts.filterMap fun p => if sel p then phaseOutcome s.cfg s.cars p else some p
    showFifo := retired.foldl (fun q p => ownerLeaves (isTakeOf p.key) q) s.showFifo }

/-! ## Addresses in conflict (R118, R121) -/

/-- Whether an address counts as lower than the station's own; of an equal one the manual says nothing
and a free value is drawn. -/
def addressIsLower (a : Nat) (s : State) : Bool × State :=
  if a < s.start.address then (true, s)
  else if s.start.address < a then (false, s)
  else (Config.equalAddressIsLower a s.tieDraws, { s with tieDraws := s.tieDraws + 1 })

/-! ## The recall latch (R143 to R150) -/

/-- The position read from the two contacts: both closed is ON (R143). -/
def contactPosition (r : RecallLatch) : KeyPosition :=
  if r.onContact then .on else if r.bypassContact then .bypass else .off

/-- The effects of the latch becoming SET (R148). -/
def latchEffects (s : State) : State :=
  let held :=
    if asleep s.power.mode then leaveSleep .active s
    else { s with power := { s.power with mode := .active } }
  { held with
    requests := { held.requests with entries := [] }
    entry := EntryController.idle
    prompts := []
    releases := []
    showFifo := [] }

/-- The latch becomes SET, if it is CLEAR (R145). -/
def latchSet (s : State) : State :=
  if s.recallLatch.latched then s
  else latchEffects (setFlag .recallChanged { s with recallLatch := { s.recallLatch with latched := true } })

/-- The latch becomes CLEAR, if it is SET (R146, R150, R179). -/
def latchClear (s : State) : State :=
  if s.recallLatch.latched then
    let cleared := setFlag .recallChanged { s with recallLatch := { s.recallLatch with latched := false } }
    if cleared.power.night then
      restartIdle { cleared with power := { cleared.power with mode := .dim } }
    else cleared
  else s

/-! ## DRAINING and DORMANT (R174, R176) -/

/-- A record as drain entry leaves it: its holdoff cancelled, and its mark set only while a TAKE of it
is on the line (R130). -/
def drainPrompt (fifo : List ShowItem) (p : PromptRecord) : PromptRecord :=
  { p with holdoff := none, takeQueued := p.takeQueued && hasTake p.key fifo }

/-- Entry into DRAINING (R128, R130, R174, R103). A reassert on the line of an Owned record stays, and its WON finds
no record (R128). -/
def drainEntry (s : State) : State :=
  let deadline := s.now + Config.drainLimit
  let onLine := s.showFifo.filter fun i => i.act == .release || i.onLine
  let owned := rowsOf s.prompts
  { s with
    power := { s.power with mode := .draining, drainDeadline := some deadline, idleDrainAt := none }
    prompts := (s.prompts.filter fun p => p.board != .owned).map (drainPrompt onLine)
    releases := s.releases ++ owned.map fun p => { key := p.key, deadline := deadline }
    showFifo :=
      (onLine.map fun i =>
          if owned.any fun p => isTakeOf p.key i then { i with withdrawn := true } else i)
        ++ owned.map fun p => { act := .release, key := p.key, onLine := false }
    requests := { s.requests with entries := [] } }

/-- The idle deadline drains the station, and the instant is kept (R173, R180). -/
def idleDrain (s : State) : State :=
  let drained := drainEntry s
  { drained with power := { drained.power with idleDrainAt := some s.now } }

/-- The idle deadline has drained the station at this very instant: an activity other than a key then leaves
it DRAINING (R180, first line). -/
def idleDrainedNow (s : State) : Bool :=
  s.power.mode == .draining && s.power.idleDrainAt == some s.now

/-- A LIVE record becomes STALE; its tracker fields are held (R41, R47). -/
def staleRecord (c : CarRecord) : CarRecord :=
  if c.freshness = .live then { c with freshness := .stale } else c

/-- Entry into DORMANT (R176). -/
def dormantEntry (s : State) : State :=
  { s with
    power := { s.power with mode := .dormant, drainDeadline := none }
    cars := s.cars.map staleRecord
    lanterns := darkenAll s.lanterns
    chime := silentChime
    prompts := []
    releases := []
    showFifo := []
    requests := { s.requests with entries := [] }
    entry := EntryController.idle
    display := { s.display with regions := s.display.regions.map haltPass } }

/-- The drain's first end: DRAINING with the release buffer empty and nothing being sent (R175). -/
def drainTest (s : State) : State :=
  if s.power.mode = .draining ∧ s.releases = [] ∧ s.line.tx ≠ .sending then dormantEntry s else s

end Sys2Proof.Machine
end

