-- ==== Sys2Proof/Machine/Kiosk.lean ====
section
/-! DEFINITION. The keypad scanner, the entry controller, and the request file's part of an OK and of an
answer (chapter 6). -/

namespace Sys2Proof.Machine

/-! ## The keypad (R84 to R88) -/

/-- The scanner runs (R84). -/
def scannerRuns (s : State) : Bool := serving s

/-- The debounced state of a key. -/
def keyState (s : State) (k : Key) : KeyState :=
  match s.keypad.keys.find? fun r => r.key == k with
  | some r => r.state
  | none => .up

/-- A key is DOWN; STUCK keys do not count (R86). -/
def anyDown (ks : List KeyRecord) : Bool := ks.any fun r => r.state == .down

/-- A record of a key that goes DOWN: its contact has been read closed (R85). A press the sampler has not
read closes the contact too; one it has read leaves the pin where it stands (assumption 16). -/
def goDown (now : Nat) (r : KeyRecord) : KeyRecord :=
  { r with
    contact := !r.reading || r.contact
    reading := true
    readingSince := if r.reading then r.readingSince else now
    state := .down
    stateSince := now }

/-- A record of a key that goes UP: its contact has been read open (R85). A release the sampler has not
read opens the contact too; one it has read leaves the pin where it stands (assumption 16). -/
def goUp (now : Nat) (r : KeyRecord) : KeyRecord :=
  { r with
    contact := !r.reading && r.contact
    reading := false
    readingSince := if r.reading then now else r.readingSince
    state := .up
    stateSince := now }

/-- The keys of a list that are UP: those that can become DOWN. -/
def goingDown (keys : List Key) (s : State) : List Key :=
  (s.keypad.keys.filter fun r => keys.contains r.key && r.state == .up).map KeyRecord.key

/-- The keypad with some keys gone DOWN. -/
def pressKeys (keys : List Key) (s : State) : State :=
  { s with
    keypad :=
      { s.keypad with
        keys := s.keypad.keys.map fun r =>
          if keys.contains r.key then goDown s.now r else r } }

/-- The lock ends at the instant no key is DOWN (R86). -/
def unlockTest (s : State) : State :=
  if anyDown s.keypad.keys then s else { s with keypad := { s.keypad with locked := false } }

/-- The characters of the character keys (12.4). -/
def keyChar : Key → Option Nat
  | .digit d => some (48 + d.val)
  | .b => some 66
  | .l => some 76
  | .m => some 77
  | .s => some 83
  | .clr => none
  | .ok => none
  | .assist => none

/-! ## Kiosk prompts (R104) -/

/-- A prompt made now, shown for a time; it replaces any prompt in the slot. -/
def makePrompt (c : PromptContent) (time : Nat) (s : State) : State :=
  { s with entry := { s.entry with prompt := some { content := c, ends := s.now + time } } }

/-- The entry returned to IDLE; the prompt slot stands (R93, R94). -/
def entryToIdle (e : EntryController) : EntryController :=
  { EntryController.idle with prompt := e.prompt }

/-! ## Requests (R95, R96) -/

/-- The tag after a tag: from 65535 to 1 (R95). -/
def nextTag (t : Nat) : Nat := if t = Config.tagLimit then 1 else t + 1

/-- The entry is Queued with this destination and class: what a merge looks for (R96). -/
def mergeTarget (dest : Nat) (cls : ReqClass) (r : Request) : Bool :=
  !r.sent && r.dest == dest && r.cls == cls

/-- A request for a floor (the three steps of R96). -/
def makeRequest (dest : Nat) (cls : ReqClass) (s : State) : State :=
  if s.requests.entries.any (mergeTarget dest cls) then
    makePrompt (.wait dest) s.cfg.requestTimeout
      { s with
        requests :=
          { s.requests with
            entries := s.requests.entries.map fun r =>
              if mergeTarget dest cls r then
                { r with count := min (r.count + 1) Config.passengerLimit }
              else r } }
  else if Config.requestCapacity ≤ s.requests.entries.length then
    makePrompt (.busy dest) Config.busyPromptTime s
  else
    makePrompt (.wait dest) s.cfg.requestTimeout
      { s with
        requests :=
          { entries :=
              s.requests.entries
                ++ [{ tag := s.requests.tagCounter, dest := dest, cls := cls, count := 1,
                      sent := false, created := s.now }]
            tagCounter := nextTag s.requests.tagCounter } }

/-- An OK in ENTERING (R94): the four tests on the text, then the entry is IDLE. -/
def resolveEntry (s : State) : State :=
  let text := s.entry.buffer
  let cls := s.entry.cls
  let idle := { s with entry := entryToIdle s.entry }
  match lookupText s.cfg text with
  | none => makePrompt (.invalid text) Config.refusalPromptTime idle
  | some f =>
    if s.cfg.homeFloor = some f then makePrompt (.notHere f) Config.refusalPromptTime idle
    else if (servedAt s.cfg f &&& s.cfg.groups) = 0 ∨ isDisplayable s.cfg f = false then
      makePrompt (.notServed f) Config.refusalPromptTime idle
    else makeRequest f cls idle

/-- The buffer with a character added: the last three stay (R90). -/
def addChar (buffer : List Nat) (c : Nat) : List Nat :=
  let b := buffer ++ [c]
  b.drop (b.length - 3)

/-- The entry controller acts on a key (R89 to R92, R94). The current prompt goes first. -/
def entryKey (k : Key) (s : State) : State :=
  let e := { s.entry with prompt := none }
  let deadline := some (s.now + Config.entryTimeout)
  match keyChar k, k with
  | some c, _ =>
    { s with
      entry :=
        { e with
          entering := true
          buffer := if e.entering then addChar e.buffer c else [c]
          cls := if e.entering then e.cls else .standard
          deadline := deadline } }
  | none, .assist =>
    { s with
      entry :=
        { e with
          entering := true
          buffer := if e.entering then e.buffer else []
          cls := .accessible
          deadline := deadline } }
  | none, .clr =>
    if e.entering then
      if e.buffer = [] then { s with entry := entryToIdle e }
      else { s with entry := { e with buffer := [], deadline := deadline } }
    else { s with entry := e }
  | none, _ =>
    if e.entering then resolveEntry { s with entry := e } else { s with entry := e }

/-- A taken key handed on (the table of R88). -/
def takeKey (k : Key) (s : State) : State :=
  match s.power.mode with
  | .dormant => wakeSource s
  | .draining =>
    let woken := wakeSource s
    if kioskJob woken.cfg then entryKey k woken else woken
  | _ =>
    let s' := activity s
    if s.recallLatch.latched then s'
    else if kioskJob s'.cfg then entryKey k s' else s'

/-- Keys that become DOWN at one instant (R86). -/
def keysDown (keys : List Key) (s : State) : State :=
  let fresh := goingDown keys s
  let pressed := pressKeys fresh s
  match fresh with
  | [] => s
  | [k] =>
    if s.keypad.locked then pressed
    else if anyDown s.keypad.keys then { pressed with keypad := { pressed.keypad with locked := true } }
    else takeKey k pressed
  | _ => { pressed with keypad := { pressed.keypad with locked := true } }

/-- A DOWN or STUCK key becomes UP (R85), and the lock may end (R86). -/
def keyGoesUp (k : Key) (s : State) : State :=
  unlockTest
    { s with
      keypad :=
        { s.keypad with
          keys := s.keypad.keys.map fun r =>
            if r.key = k ∧ r.state ≠ .up then goUp s.now r else r } }

/-- The key has been DOWN for 10,000 ms (R87). -/
def stuckDue (now : Nat) (k : Key) (r : KeyRecord) : Bool :=
  r.key == k && r.state == .down && r.stateSince + Config.stuckTime ≤ now

/-- A key becomes STUCK (R87); with no other key DOWN the lock ends (R86). -/
def keySticks (k : Key) (s : State) : State :=
  if s.keypad.keys.any (stuckDue s.now k) then
    setFlag .keyStuck
      (unlockTest
        { s with
          keypad :=
            { s.keypad with
              keys := s.keypad.keys.map fun r =>
                if stuckDue s.now k r then { r with state := .stuck, stateSince := s.now } else r } })
  else s

/-! ## Answers (R99) -/

/-- The ASSIGN answers a Sent entry of this kiosk (R99). -/
def isAnswer (a : AssignFields) (s : State) : Bool :=
  a.key.kiosk == s.start.address && s.requests.entries.any fun r => r.sent && r.tag == a.key.tag

/-- The answered entry leaves the file, and the answer or refusal is shown (the table of R99). An answer
is an activity (R173). -/
def answerRequest (a : AssignFields) (s : State) : State :=
  let removed :=
    { s with
      requests :=
        { s.requests with
          entries := s.requests.entries.filter fun r => !(r.sent && r.tag == a.key.tag) } }
  let content :=
    match a.result with
    | .assigned => PromptContent.answer a.key a.dest a.car a.deck a.cls
    | .notServed => PromptContent.refused a.dest .notServed
    | .unavailable => PromptContent.refused a.dest .unavailable
  activity (makePrompt content s.cfg.replyTime removed)

end Sys2Proof.Machine
end

