-- ==== Sys2Proof/Machine/Board.lean ====
section
/-! DEFINITION. The prompt table's part of an ASSIGN, and the acts on a peer's SHOW (chapter 7). -/

namespace Sys2Proof.Machine

/-! ## ASSIGN (R108 to R111) -/

/-- The validity deadline of an ASSIGN taken now (R109). -/
def validityOf (s : State) (a : AssignFields) : Nat :=
  s.now + (if a.validity = 0 then s.cfg.defaultValidity else a.validity) * 1000

/-- A new record of an ASSIGN: Waiting, both marks clear, no claimant and no claim time (R108, R110). -/
def newRecord (s : State) (a : AssignFields) (local_ : Option Nat) (board : BoardState) :
    PromptRecord :=
  { key := a.key
    dest := a.dest
    car := a.car
    deck := a.deck
    cls := a.cls
    phase := .waiting
    validUntil := validityOf s a
    localUntil := local_
    board := board
    holdoff := none
    takeQueued := false
    claimant := none
    reassertDone := false
    claimTime := none
    claimOrder := 0 }

/-- The ASSIGN names the record's car and deck (R109). -/
def sameCar (a : AssignFields) (p : PromptRecord) : Bool := p.car == a.car && p.deck == a.deck

/-- A refresh or a reassignment (R109). -/
def refreshOrReassign (s : State) (a : AssignFields) (p : PromptRecord) : PromptRecord :=
  if sameCar a p then { p with validUntil := validityOf s a }
  else
    { p with car := a.car, deck := a.deck, phase := .waiting, validUntil := validityOf s a }

/-- The handover of an assigned answer: the record's local part is made present, or a new record with
it joins (R110). -/
def handOver (a : AssignFields) (s : State) : State :=
  let deadline := s.now + s.cfg.replyTime
  match findPrompt s.prompts a.key with
  | some _ =>
    { s with
      prompts := updatePrompt a.key (fun p => { p with localUntil := some deadline }) s.prompts }
  | none => joinPrompt (newRecord s a (some deadline) .none) s

/-- An ASSIGNED ASSIGN that is no answer, on a record that holds a local part (R110): the validity is
refreshed, or the local part is dropped, and with it a record that has no board state. -/
def notAnswer (a : AssignFields) (s : State) : State :=
  if kioskJob s.cfg then
    match findPrompt s.prompts a.key with
    | some p =>
      if p.localUntil.isSome then
        if sameCar a p then
          { s with
            prompts := updatePrompt a.key (fun p => { p with validUntil := validityOf s a }) s.prompts }
        else if p.board = .none then removePrompt a.key s
        else { s with prompts := updatePrompt a.key (fun p => { p with localUntil := none }) s.prompts }
      else s
    | none => s
  else s

/-- Board state Pending, added to a record with none (R108). -/
def addPending (p : PromptRecord) : PromptRecord := { p with board := .pending }

/-- The board side of an ASSIGNED ASSIGN (the table of R108). Acting on it is an activity, and the phase
test of the record is made when it is created, gains Pending or is reassigned (R125). -/
def boardSide (a : AssignFields) (s : State) : State :=
  if boardStation s.cfg && !inReleases a.key s.releases then
    match findPrompt s.prompts a.key with
    | none =>
      activity
        (phaseTests (fun p => p.key == a.key) (joinPrompt (newRecord s a none .pending) s))
    | some p =>
      let p' := if p.board = .none then addPending p else p
      let written :=
        { s with prompts := updatePrompt a.key (fun _ => refreshOrReassign s a p') s.prompts }
      if p.board = .none ∨ sameCar a p = false then
        activity (phaseTests (fun p => p.key == a.key) written)
      else activity written
  else s

/-- The prompt table acts on a checked ASSIGN (R108, R110). -/
def promptTableAssign (answer : Bool) (a : AssignFields) (s : State) : State :=
  match a.result with
  | .assigned =>
    let localSide := if answer then handOver a s else notAnswer a s
    let both := boardSide a localSide
    -- "The phase test of 7.5 is made once the record is complete" (R110)
    if answer then phaseTests (fun p => p.key == a.key) both else both
  | .notServed => s
  | .unavailable => s

/-- A checked ASSIGN: not acted on while the latch is SET, nor in DRAINING and DORMANT (the table of R170, R108,
R177), else acted on by the request file and by the prompt table (R98, R149). -/
def assignTaken (a : AssignFields) (s : State) : State :=
  if s.recallLatch.latched || asleep s.power.mode then s
  else
    let answer := isAnswer a s
    promptTableAssign answer a (if answer then answerRequest a s else s)

/-! ## SHOW (R119 to R123, R129) -/

/-- A Pending record that a peer has taken: Watched, its holdoff cancelled, its waiting TAKE removed; a
TAKE on the line keeps its mark (R120). -/
def watchPending (peer : Nat) (k : AssignKey) (s : State) : State :=
  let fifo := dropWaitingTakes k s.showFifo
  { s with
    showFifo := fifo
    prompts :=
      updatePrompt k
        (fun p =>
          { p with
            board := .watched
            claimant := some peer
            holdoff := none
            takeQueued := p.takeQueued && hasTake k fifo })
        s.prompts }

/-- An Owned record that yields to a lower address (R121). -/
def yieldOwned (peer : Nat) (k : AssignKey) (s : State) : State :=
  let fifo := dropWaitingTakes k s.showFifo
  setFlag .claimConflict
    { s with
      showFifo := fifo
      prompts :=
        updatePrompt k
          (fun p =>
            { p with
              board := .watched
              claimant := some peer
              claimTime := none
              takeQueued := p.takeQueued && hasTake k fifo })
          s.prompts }

/-- The one reassert of an Owned record (R121). -/
def reassertOwned (k : AssignKey) (s : State) : State :=
  setFlag .claimConflict
    { s with
      showFifo := s.showFifo ++ [{ act := .reassert, key := k, onLine := false }]
      prompts :=
        updatePrompt k (fun p => { p with takeQueued := true, reassertDone := true }) s.prompts }

/-- A peer TAKE for a Watched record: the claimant becomes the lower address (R122). -/
def lowerClaimant (peer : Nat) (p : PromptRecord) : PromptRecord :=
  match p.claimant with
  | some c => if peer < c then { p with claimant := some peer } else p
  | none => { p with claimant := some peer }

/-- A peer TAKE (R119 to R122, R129). -/
def peerTake (peer : Nat) (k : AssignKey) (s : State) : State :=
  if inReleases k s.releases then removeRelease k s
  else
    match findPrompt s.prompts k with
    | none => s
    | some p =>
      match p.board with
      | .none => s
      | .pending => watchPending peer k s
      | .owned =>
        let cmp := addressIsLower peer s
        if cmp.1 then yieldOwned peer k cmp.2
        else if p.reassertDone then cmp.2
        else reassertOwned k cmp.2
      | .watched => { s with prompts := updatePrompt k (lowerClaimant peer) s.prompts }

/-- A peer RELEASE: a Watched record of that claimant returns to Pending (R123). -/
def peerRelease (peer : Nat) (k : AssignKey) (s : State) : State :=
  { s with
    prompts :=
      s.prompts.map fun p =>
        if p.key = k ∧ p.board = .watched ∧ p.claimant = some peer then
          { p with board := .pending, claimant := none }
        else p }

/-- A SHOW taken (R119, R177): acted on by a board station in ACTIVE, DIM and DRAINING, after its field
check. -/
def showTaken (e : RxEntry) (s : State) : State :=
  if boardStation s.cfg && s.power.mode != .dormant then
    match showOf e.payload with
    | none => setFlag .lineCheckError s
    | some (.take, k) => peerTake e.source k s
    | some (.release, k) => peerRelease e.source k s
  else s

end Sys2Proof.Machine
end

