-- ==== Sys2Proof/Machine/Compose.lean ====
section
/-! DEFINITION. The composer (chapter 9): the cell string of each region, scrolling, and the recomposition
after each command. -/

namespace Sys2Proof.Machine

/-! ## Codes and fixed words (12.4, R159) -/

/-- The space. -/
abbrev space : Nat := 32
/-- The up arrow, the first of the seven glyphs of 12.4. -/
abbrev upArrow : Nat := 1
/-- The down arrow. -/
abbrev downArrow : Nat := 2
/-- The lower-deck marker. -/
abbrev lowerDeckMarker : Nat := 3
/-- The upper-deck marker. -/
abbrev upperDeckMarker : Nat := 4
/-- The fire symbol. -/
abbrev fireSymbol : Nat := 5
/-- The accessible symbol. -/
abbrev accessibleSymbol : Nat := 6
/-- The dash glyph. -/
abbrev dashGlyph : Nat := 7

/-- "TO " in the codes of 12.4. -/
def wordTo : List Nat := [84, 79, 32]
/-- "WAIT " in the codes of 12.4. -/
def wordWait : List Nat := [87, 65, 73, 84, 32]
/-- "NO FLOOR " in the codes of 12.4. -/
def wordNoFloor : List Nat := [78, 79, 32, 70, 76, 79, 79, 82, 32]
/-- "THIS IS " in the codes of 12.4. -/
def wordThisIs : List Nat := [84, 72, 73, 83, 32, 73, 83, 32]
/-- " NOT SERVED" in the codes of 12.4. -/
def wordNotServed : List Nat := [32, 78, 79, 84, 32, 83, 69, 82, 86, 69, 68]
/-- "BUSY " in the codes of 12.4. -/
def wordBusy : List Nat := [66, 85, 83, 89, 32]
/-- "TRY AGAIN " in the codes of 12.4. -/
def wordTryAgain : List Nat := [84, 82, 89, 32, 65, 71, 65, 73, 78, 32]
/-- " CAR " in the codes of 12.4. -/
def wordCar : List Nat := [32, 67, 65, 82, 32]
/-- " UNAVAILABLE" in the codes of 12.4. -/
def wordUnavailable : List Nat := [32, 85, 78, 65, 86, 65, 73, 76, 65, 66, 76, 69]
/-- "CONFIG FAULT" in the codes of 12.4. -/
def wordConfigFault : List Nat := [67, 79, 78, 70, 73, 71, 32, 70, 65, 85, 76, 84]

/-- A cell of a string: its character code, and whether it blinks. -/
structure Cell where
  code : Nat
  blinks : Bool
  deriving DecidableEq, Repr

/-- Codes as cells that do not blink. -/
def steady (t : List Nat) : List Cell := t.map fun c => { code := c, blinks := false }

/-- Codes as cells that blink when `b` holds. -/
def cellsOf (b : Bool) (t : List Nat) : List Cell := t.map fun c => { code := c, blinks := b }

/-! ## Car content (R155, R156) -/

/-- The direction cell of a LIVE record. -/
def directionCell (r : Report) : Nat :=
  match r.motion, r.committed with
  | .runUp, _ => upArrow
  | .runDown, _ => downArrow
  | _, some .up => upArrow
  | _, some .down => downArrow
  | _, none => space

/-- The service cell; none for NORMAL (R156). -/
def serviceCell : Service → List Nat
  | .normal => []
  | .fireRecall => [fireSymbol]
  | .fireService => [fireSymbol]
  | .independent => [42]
  | .inspection => [35]
  | .outOfService => [88]

/-- The floor cells: the label of the displayed floor, or two dash glyphs. -/
def floorCells (cfg : Settings) : Option Nat → List Nat
  | some f => labelOf cfg f
  | none => [dashGlyph, dashGlyph]

/-- The car content of POSITION region `i` (R155). A car without a record, which R29 keeps from arising,
shows as one with no position. -/
def carContent (cfg : Settings) (i : Nat) (c : Option CarRecord) : List Nat :=
  match c with
  | none => [dashGlyph, dashGlyph]
  | some c =>
    match c.freshness, c.report with
    | .live, some r =>
      [directionCell r] ++ floorCells cfg (c.shown[i]?.getD none) ++ serviceCell r.service
    | .stale, some r => [space] ++ floorCells cfg (c.shown[i]?.getD none) ++ serviceCell r.service
    | _, _ => [dashGlyph, dashGlyph]

/-! ## Stops (R157) -/

/-- The stops in serving order about the indicated floor. -/
def servingOrder (f : Nat) (committed : Option Dir) (stops : List Nat) : List Nat :=
  match committed with
  | some .up => stops.filter (fun x => f ≤ x) ++ (stops.filter fun x => x < f).reverse
  | some .down => (stops.filter fun x => x ≤ f).reverse ++ stops.filter fun x => f < x
  | none => stops

/-- The stop at which the car stands PARKED with its door OPENING or OPEN is left out. -/
def leftOut (r : Report) : Bool := r.motion == .parked && doorOpens r.door

/-- Texts with one space between two. -/
def spaced : List (List Nat) → List Nat
  | [] => []
  | [t] => t
  | t :: u :: ts => t ++ [space] ++ spaced (u :: ts)

/-- The stops layer of a STOPLIST region (R157). -/
def stopsContent (cfg : Settings) (c : Option CarRecord) : List Nat :=
  match c with
  | none => []
  | some c =>
    match c.report, c.floor with
    | some r, some f =>
      let stops := if leftOut r then c.stops.filter (fun x => x != f) else c.stops
      spaced ((servingOrder f r.committed stops).map (labelOf cfg))
    | _, _ => []

/-! ## Rows (R158) -/

/-- A label filled with spaces to three cells. -/
def label3 (t : List Nat) : List Nat := (t ++ [space, space, space]).take 3

/-- The deck marker of a board field: a space for deck none. -/
def deckCell : Option Deck → Nat
  | some .lower => lowerDeckMarker
  | some .upper => upperDeckMarker
  | none => space

/-- The accessible cell of a board field. -/
def classCell : ReqClass → Nat
  | .accessible => accessibleSymbol
  | .standard => space

/-- The eight cells of a row; they blink while the record is Boarding (R158, R162). -/
def rowField (cfg : Settings) (p : PromptRecord) : List Cell :=
  cellsOf (p.phase == .boarding)
    (label3 (labelOf cfg p.dest) ++ [space, carName cfg p.car, deckCell p.deck, classCell p.cls, space])

/-- A blank field. -/
def blankField : List Cell := steady (List.replicate 8 space)

/-- The rows layer: `rowCount` fields (R158). -/
def rowsContent (cfg : Settings) (ps : List PromptRecord) : List Cell :=
  let rows := rowsOf ps
  (rows.take cfg.rowCount).flatMap (rowField cfg)
    ++ (List.replicate (cfg.rowCount - rows.length) blankField).flatten

/-! ## Entry content (R159, R160) -/

/-- The deck marker of an ANSWER: none for deck none. -/
def deckMarker : Option Deck → List Nat
  | some .lower => [lowerDeckMarker]
  | some .upper => [upperDeckMarker]
  | none => []

/-- The accessible marker of an echo or an ANSWER. -/
def classMarker : ReqClass → List Nat
  | .accessible => [accessibleSymbol]
  | .standard => []

/-- The string of a prompt (the table of R159). -/
def promptText (cfg : Settings) : PromptContent → List Nat
  | .wait f => wordWait ++ labelOf cfg f
  | .invalid t => wordNoFloor ++ t
  | .notHere f => wordThisIs ++ labelOf cfg f
  | .notServed f => labelOf cfg f ++ wordNotServed
  | .busy f => wordBusy ++ labelOf cfg f
  | .tryAgain f => wordTryAgain ++ labelOf cfg f
  | .answer _ f car deck cls =>
    labelOf cfg f ++ wordCar ++ [carName cfg car] ++ deckMarker deck ++ classMarker cls
  | .refused f .notServed => labelOf cfg f ++ wordNotServed
  | .refused f .unavailable => labelOf cfg f ++ wordUnavailable

/-- An ANSWER blinks while its key's record is Boarding with its local part present (R160). -/
def answerBlinks (ps : List PromptRecord) : PromptContent → Bool
  | .answer k _ _ _ _ =>
    ps.any fun p => p.key == k && p.phase == .boarding && p.localUntil.isSome
  | _ => false

/-- The entry content of a KIOSK region (R159). -/
def entryContent (cfg : Settings) (ps : List PromptRecord) (e : EntryController) : List Cell :=
  if e.entering then steady (wordTo ++ e.buffer ++ classMarker e.cls)
  else
    match e.prompt with
    | some p => cellsOf (answerBlinks ps p.content) (promptText cfg p.content)
    | none => steady cfg.idleText

/-! ## Layers (R153, R154) -/

/-- The recall layer, present while the latch is SET. -/
def recallLayer (s : State) : Option (List Cell) :=
  if s.recallLatch.latched then some (steady ([fireSymbol, space] ++ s.cfg.recallText)) else none

/-- A slot's layer, present while the slot has a shown text. -/
def textLayer (x : TextSlot) : Option (List Cell) := x.shown.map fun t => steady t.text

/-- The urgent layer of a region with its overlay flag. -/
def overlayLayer (s : State) (overlay : Bool) : Option (List Cell) :=
  if overlay then textLayer s.notices.urgent else none

/-- The string of region `i`: the highest layer present for its kind (R153). -/
def compose (s : State) (i : Nat) (g : Region) : List Cell :=
  match g.kind with
  | .position car _ =>
    ((overlayLayer s g.overlay).getD (steady (carContent s.cfg i (findCar s.cars car))))
  | .stoplist car =>
    ((overlayLayer s g.overlay).getD (steady (stopsContent s.cfg (findCar s.cars car))))
  | .board =>
    ((recallLayer s).or (overlayLayer s g.overlay)).getD (rowsContent s.cfg s.prompts)
  | .kiosk =>
    ((recallLayer s).or (overlayLayer s g.overlay)).getD (entryContent s.cfg s.prompts s.entry)
  | .notice =>
    ((recallLayer s).or ((textLayer s.notices.urgent).or (textLayer s.notices.info))).getD []

/-- The codes of a string. -/
def codesOf (cs : List Cell) : List Nat := cs.map Cell.code

/-! ## Scrolling (R163, R164, R166) -/

/-- A region takes its present string: a changed string restarts the scroll, and in DORMANT no pass
runs. -/
def retext (dormant : Bool) (now : Nat) (t : List Nat) (v : RegionView) : RegionView :=
  if v.text = t then v
  else if dormant then haltPass { v with text := t }
  else beginPass now { v with text := t }

/-- Every region takes its present string (R152, R164). -/
def recompose (s : State) : State :=
  { s with
    display :=
      { s.display with
        regions :=
          s.display.regions.mapIdx fun i v =>
            retext (s.power.mode == .dormant) s.now (codesOf (compose s i v.region)) v } }

/-- The region's string is longer than its width. -/
def scrolls (v : RegionView) : Bool := v.region.width < v.text.length

/-- The scroll deadline of a region passes (R163): the pause ends, the offset steps, or a new pass
begins. -/
def scrollStep (now step : Nat) (v : RegionView) : RegionView :=
  if v.stepping = false then { v with offset := 1, stepping := true, deadline := some (now + step) }
  else if v.offset < v.text.length - v.region.width then
    { v with offset := v.offset + 1, deadline := some (now + step) }
  else beginPass now v

/-- The scroll deadline has an effect: the string is longer than the region and the deadline has been
reached. -/
def scrollDue (now : Nat) (v : RegionView) : Bool := scrolls v && passed now v.deadline

end Sys2Proof.Machine
end

