-- ==== Sys2Proof/Machine/Loader.lean ====
section
/-! DEFINITION. The start-up loader's reading and checks of the configuration image (12.3, R19 to R30, R151,
R185, R196, and the ranges each value's own rule gives). -/

namespace Sys2Proof.Machine

/-! ## Offsets of the image (12.3) -/

/-- Where the affinity list stands. -/
abbrev affinityAt : Nat := 35
/-- Where the recall text stands. -/
abbrev recallTextAt : Nat := 51
/-- Where the idle text stands. -/
abbrev idleTextAt : Nat := 115
/-- Where the car names stand. -/
abbrev carNamesAt : Nat := 179
/-- Where the region entries stand. -/
abbrev regionsAt : Nat := 307
/-- Where the lantern entries stand. -/
abbrev lanternsAt : Nat := 363
/-- Where the floor entries stand. -/
abbrev floorsAt : Nat := 411

/-! ## Integrity (R185, step 1) -/

/-- The image length field. -/
def imageLength (m : List Byte) : Nat := wordAt m 1

/-- The header is that of an image this part reads. -/
def headerGood (m : List Byte) : Bool :=
  byteAt m 0 == Config.formatCode && imageLength m == 413 + 8 * byteAt m 3
    && 429 ≤ imageLength m && imageLength m ≤ 1437

/-- The memory answered every byte of the image, and the CRC over those before the CRC field agrees. -/
def imageIntact (m : List Byte) : Bool :=
  headerGood m && imageLength m ≤ m.length
    && wordAt m (imageLength m - 2) == (crc16 (bitsOfBytes (m.take (imageLength m - 2)))).toNat

/-! ## The floor map (R19 to R21) -/

/-- The characters of a label: digits, B, L, M and S (12.4). -/
def isLabelChar (c : Nat) : Bool := (48 ≤ c && c ≤ 57) || c == 66 || c == 76 || c == 77 || c == 83

/-- The three label bytes of floor entry `i`. -/
def labelBytes (m : List Byte) (i : Nat) : List Nat :=
  (List.range 3).map fun j => byteAt m (floorsAt + 8 * i + 3 + j)

/-- Characters first, then fill bytes of 0 (R196). -/
def labelText (b : List Nat) : List Nat := b.takeWhile fun c => c != 0

/-- The label form check of R20. -/
def labelFormGood (b : List Nat) : Bool :=
  labelText b != [] && (labelText b).all isLabelChar && (b.dropWhile fun c => c != 0).all (· == 0)

/-- Floor entry `i`: the top four bits of the level are not read, and displayable is bit 0 (12.3). -/
def floorEntry (m : List Byte) (i : Nat) : Floor :=
  { level := tripleAt m (floorsAt + 8 * i) % 1048576
    label := labelText (labelBytes m i)
    displayable := (byteAt m (floorsAt + 8 * i + 6)).testBit 0
    served := BitVec.ofNat 8 (byteAt m (floorsAt + 8 * i + 7)) }

/-- The floor map of an image, in index order (R19). -/
def floorMap (m : List Byte) : List Floor := (List.range (byteAt m 3)).map (floorEntry m)

/-- The gaps of a map, for a map whose order holds (R21). -/
def gapsOf : List Floor → List Nat
  | f :: g :: fs => (g.level - f.level) :: gapsOf (g :: fs)
  | _ => []

/-- The switch points of a map for the switch fraction `P` (R21). -/
def switchPointsOf (p : Nat) : List Floor → List Nat
  | f :: g :: fs => (f.level + (g.level - f.level) * p / 16) :: switchPointsOf p (g :: fs)
  | _ => []

/-- The order and gap checks of R20. -/
def gapsGood : List Floor → Bool
  | f :: g :: fs =>
    f.level < g.level && 1000 ≤ g.level - f.level && g.level - f.level ≤ 60000 && gapsGood (g :: fs)
  | _ => true

/-- The structural checks of R20 (R185, step 2). -/
def mapGood (m : List Byte) : Bool :=
  let fs := floorMap m
  2 ≤ fs.length && fs.length ≤ 128 && gapsGood fs
    && ((List.range fs.length).all fun i => labelFormGood (labelBytes m i))
    && decide (fs.map Floor.label).Nodup
    && fs.any Floor.displayable

/-! ## Values (R185, step 3) -/

/-- A signed byte. -/
def signedByte (b : Nat) : Int := if b < 128 then (b : Int) else (b : Int) - 256

/-- A text field of 64 codes: it ends at its first code 0 (R196). -/
def textAt (m : List Byte) (i : Nat) : List Nat :=
  ((List.range 64).map fun j => byteAt m (i + j)).takeWhile fun c => c != 0

/-- The name code of key number `i` counts as a name (R24). -/
def isNameCode (c : Nat) : Bool := 33 ≤ c && c ≤ 126

/-- The name held for key number `i`: group times 16 plus car (R24). -/
def nameAt (m : List Byte) (i : Nat) : Nat :=
  let c := byteAt m (carNamesAt + i)
  if isNameCode c then c else 65 + i % 16

/-- The name code of key number `i` was replaced (R24). -/
def nameReplaced (m : List Byte) (i : Nat) : Bool :=
  let c := byteAt m (carNamesAt + i)
  c != 0 && !isNameCode c

/-- The used affinity entries: kiosk address and rank as the image gives it (R115, R196). -/
def affinityRaw (m : List Byte) : List (Nat × Nat) :=
  ((List.range 8).map fun j => (byteAt m (affinityAt + 2 * j), byteAt m (affinityAt + 2 * j + 1))).filter
    fun e => e.1 != 0

/-- The lost timeout held beside a held stale timeout (R40). -/
def lostHeld (stale lost : Nat) : Nat := max (clampNat 5000 60000 lost) (stale + 1000)

/-- The home floor: 255 is absent, and an index of N or above is treated as absent (R25). -/
def homeHeld (n b : Nat) : Option Nat := if b = 255 ∨ n ≤ b then none else some b

/-- The values of an image after their clamps, with no item yet examined. -/
def clampedSettings (m : List Byte) : Settings :=
  let fs := floorMap m
  let p := clampNat 1 15 (byteAt m 4)
  let stale := clampNat 500 8000 (wordAt m 7)
  { floors := fs
    gaps := gapsOf fs
    switchPoints := switchPointsOf p fs
    switchFraction := p
    hysteresis := clampNat 0 500 (wordAt m 5)
    staleTimeout := stale
    lostTimeout := lostHeld stale (wordAt m 9)
    lanternLead := clampNat 0 10000 (wordAt m 11)
    requestTimeout := clampNat 1000 10000 (wordAt m 13)
    replyTime := clampNat 2000 15000 (wordAt m 15)
    defaultValidity := clampNat 10 180 (byteAt m 17)
    holdoffBase := clampNat 10 100 (byteAt m 18)
    rowCount := clampNat 1 8 (byteAt m 19)
    scrollStep := clampNat 20 200 (byteAt m 20)
    activeLevel := clampNat 0 15 (byteAt m 21)
    dimLevel := clampNat 0 15 (byteAt m 22)
    lineCount := clampNat 1 4 (byteAt m 23)
    lineWidth := clampNat 1 32 (byteAt m 24)
    trims := (List.range 4).map fun j => clampInt (-3) 3 (signedByte (byteAt m (25 + j)))
    dormantDelay := clampNat 0 120 (byteAt m 29)
    homeFloor := homeHeld fs.length (byteAt m 30)
    groups := BitVec.ofNat 8 (byteAt m 31)
    keyFitted := byteAt m 32 != 0
    alertMask := BitVec.ofNat 13 (wordAt m 33)
    affinity := (affinityRaw m).map fun e => (e.1, min e.2 6)
    recallText := textAt m recallTextAt
    idleText := textAt m idleTextAt
    carNames := (List.range 128).map (nameAt m)
    regions := []
    lanterns := []
    pinned := [] }

/-- Some value was clamped, raised or replaced (R21, R24, R25, R40, R55, R76, R96, R99, R109, R113, R115,
R151, R163, R165, R173). -/
def valuesChanged (m : List Byte) : Bool :=
  let c := clampedSettings m
  c.switchFraction != byteAt m 4 || c.hysteresis != wordAt m 5 || c.staleTimeout != wordAt m 7
    || c.lostTimeout != wordAt m 9 || c.lanternLead != wordAt m 11
    || c.requestTimeout != wordAt m 13 || c.replyTime != wordAt m 15
    || c.defaultValidity != byteAt m 17 || c.holdoffBase != byteAt m 18 || c.rowCount != byteAt m 19
    || c.scrollStep != byteAt m 20 || c.activeLevel != byteAt m 21 || c.dimLevel != byteAt m 22
    || c.lineCount != byteAt m 23 || c.lineWidth != byteAt m 24
    || c.trims != ((List.range 4).map fun j => signedByte (byteAt m (25 + j)))
    || c.dormantDelay != byteAt m 29
    || (c.homeFloor == none && byteAt m 30 != 255)
    || c.affinity != affinityRaw m
    || (List.range 128).any (nameReplaced m)

/-! ## Regions and lantern entries (R27, R28, R151, R196) -/

/-- What examining one item of the image comes to. -/
inductive ItemOutcome (α : Type) where
  | unused
  | dropped
  | survives (item : α)

/-- The deck code of an item (12.3). -/
def itemDeck : Nat → Option Deck
  | 1 => some .lower
  | 2 => some .upper
  | _ => none

/-- The kind of a region entry with the car and deck it reads (R196). -/
def regionKindOf (kind car deck : Nat) : Option RegionKind :=
  match kind with
  | 1 => (itemDeck deck).map fun d => .position (carKeyOf car) d
  | 2 => some (.stoplist (carKeyOf car))
  | 3 => some .board
  | 4 => some .kiosk
  | 5 => some .notice
  | _ => none

/-- The check of R27 for a region's kind, beside the regions that have survived. -/
def kindCheck (cfg : Settings) (address : Nat) (kept : List Region) : RegionKind → Bool
  | .position car _ => inGroups cfg car
  | .stoplist car => inGroups cfg car
  | .board => cfg.homeFloor.isSome && address != 0 && !kept.any fun g => g.kind == .board
  | .kiosk => cfg.homeFloor.isSome && address != 0 && !kept.any fun g => g.kind == .kiosk
  | .notice => true

/-- Two regions share a cell. -/
def overlap (a b : Region) : Bool :=
  a.line == b.line && a.first < b.first + b.width && b.first < a.first + a.width

/-- The geometry checks of R151. -/
def geometryCheck (cfg : Settings) (kept : List Region) (g : Region) : Bool :=
  g.line < cfg.lineCount && g.width != 0 && g.width ≤ 32 && g.first + g.width ≤ cfg.lineWidth
    && !kept.any (overlap g)

/-- Region entry `j` of the image, beside the regions that have survived. -/
def examineRegion (m : List Byte) (cfg : Settings) (address : Nat) (kept : List Region) (j : Nat) :
    ItemOutcome Region :=
  let i := regionsAt + 7 * j
  if byteAt m i = 0 then .unused
  else
    match regionKindOf (byteAt m i) (byteAt m (i + 5)) (byteAt m (i + 6)) with
    | none => .dropped
    | some k =>
      let g : Region :=
        { kind := k
          line := byteAt m (i + 1)
          first := byteAt m (i + 2)
          width := byteAt m (i + 3)
          -- the overlay flag of a NOTICE region is not read (R196)
          overlay := k != .notice && byteAt m (i + 4) != 0 }
      if kindCheck cfg address kept k && geometryCheck cfg kept g then .survives g else .dropped

/-- The direction code of a lantern entry (12.3). -/
def lanternDirection : Nat → Option Dir
  | 1 => some .up
  | 2 => some .down
  | _ => none

/-- The drive mode code of a lantern entry (12.3). -/
def driveModeOf : Nat → Option DriveMode
  | 0 => some .pushPull
  | 1 => some .openDrain
  | _ => none

/-- The checks of R28. -/
def lanternCheck (cfg : Settings) (kept : List LanternEntry) (e : LanternEntry) : Bool :=
  e.landing < cfg.floors.length && inGroups cfg e.car && !(e.deck == .upper && e.landing == 0)
    && !kept.any fun k => k.output == e.output

/-- Lantern entry `j` of the image, beside the entries that have survived. -/
def examineLantern (m : List Byte) (cfg : Settings) (kept : List LanternEntry) (j : Nat) :
    ItemOutcome LanternEntry :=
  let i := lanternsAt + 6 * j
  if byteAt m i = 255 then .unused
  else if 8 ≤ byteAt m i then .dropped
  else
    match itemDeck (byteAt m (i + 2)), lanternDirection (byteAt m (i + 4)),
        driveModeOf (byteAt m (i + 5)) with
    | some deck, some dir, some mode =>
      let e : LanternEntry :=
        { output := byteAt m i
          car := carKeyOf (byteAt m (i + 1))
          deck := deck
          landing := byteAt m (i + 3)
          direction := dir
          mode := mode }
      if lanternCheck cfg kept e then .survives e else .dropped
    | _, _, _ => .dropped

/-- Items examined one at a time in image order: the survivors, and whether one was dropped (2.6). -/
def examineItems {α : Type} (examine : List α → Nat → ItemOutcome α) : List Nat → List α × Bool →
    List α × Bool
  | [], acc => acc
  | j :: js, (kept, dropped) =>
    match examine kept j with
    | .unused => examineItems examine js (kept, dropped)
    | .dropped => examineItems examine js (kept, true)
    | .survives x => examineItems examine js (kept ++ [x], dropped)

/-- The eight items of a list of the image. -/
def examineAll {α : Type} (examine : List α → Nat → ItemOutcome α) : List α × Bool :=
  examineItems examine (List.range 8) ([], false)

/-- The car a region names, if it names one. -/
def regionCar : RegionKind → List CarKey
  | .position car _ => [car]
  | .stoplist car => [car]
  | .board => []
  | .kiosk => []
  | .notice => []

/-- Keys, each once, in the order first named. -/
def distinctKeys : List CarKey → List CarKey
  | [] => []
  | k :: ks => k :: (distinctKeys ks).filter fun x => x != k

/-- The pinned set (R29). -/
def pinnedSet (gs : List Region) (ls : List LanternEntry) : List CarKey :=
  distinctKeys ((gs.flatMap fun g => regionCar g.kind) ++ ls.map LanternEntry.car)

/-- The configuration of an image that has not been rejected, and whether its status is PARTIAL (R30). -/
def acceptedSettings (m : List Byte) (address : Nat) : Settings × Bool :=
  let c := clampedSettings m
  let gs := examineAll (examineRegion m c address)
  let ls := examineAll (examineLantern m c)
  ({ c with regions := gs.1, lanterns := ls.1, pinned := pinnedSet gs.1 ls.1 },
    valuesChanged m || gs.2 || ls.2)

/-- What the loader makes of the memory's answer (R185): nothing for a REJECTED image. -/
def loadImage (m : List Byte) (address : Nat) : Option (Settings × Bool) :=
  if imageIntact m && mapGood m then some (acceptedSettings m address) else none

end Sys2Proof.Machine
end

