-- ==== Sys2Proof/Machine/Notices.lean ====
section
/-! DEFINITION. The notice store: text slots, assemblies, shown texts and their deadlines (8.2). -/

namespace Sys2Proof.Machine

/-- One slot of the store. -/
def getSlot (t : Slot) (n : NoticeStore) : TextSlot :=
  match t with
  | .urgent => n.urgent
  | .info => n.info

/-- The store with one slot replaced; the other is untouched (R135). -/
def putSlot (t : Slot) (x : TextSlot) (n : NoticeStore) : NoticeStore :=
  match t with
  | .urgent => { n with urgent := x }
  | .info => { n with info := x }

/-- The state with one slot replaced. -/
def withSlot (t : Slot) (x : TextSlot) (s : State) : State :=
  { s with notices := putSlot t x s.notices }

/-- The part belongs to the assembly in progress: the same id and the same part count (R136). -/
def belongs (q : TextPart) (a : Assembly) : Bool := a.id == q.id && a.parts.length == q.count

/-- A part put at its index; one already present is replaced (R136). -/
def addPart (q : TextPart) (parts : List (Option (List Nat))) : List (Option (List Nat)) :=
  parts.set q.index (some q.chars)

/-- Every part is present (R137). -/
def complete (a : Assembly) : Bool := a.parts.all Option.isSome

/-- The parts' characters joined in index order (R137). -/
def joinedText (a : Assembly) : List Nat := a.parts.flatMap fun p => p.getD []

/-- A slot has an assembly that a part displaces (R136). -/
def displaces (q : TextPart) (x : TextSlot) : Bool :=
  match x.assembly with
  | some a => !belongs q a
  | none => false

/-- The assembly a part leads to: its own with the part added, or a new one whose deadline counts from
the part's arrival stamp (R136). -/
def assemblyWith (q : TextPart) (stamp : Nat) (x : TextSlot) : Assembly :=
  let fresh : Assembly :=
    { id := q.id
      parts := addPart q (List.replicate q.count none)
      deadline := stamp + Config.assemblyTime }
  match x.assembly with
  | some a => if belongs q a then { a with parts := addPart q a.parts } else fresh
  | none => fresh

/-- The slot shows a text of this id. -/
def showsId (id : Nat) (x : TextSlot) : Bool :=
  match x.shown with
  | some t => t.id == id
  | none => false

/-- The part completes a text that the slot does not show: an activity (R137, R173). -/
def completesNew (q : TextPart) (stamp : Nat) (x : TextSlot) : Bool :=
  decide (q.index < q.count) && complete (assemblyWith q stamp x) && !showsId q.id x

/-- A completed text is shown (R137), and emptied at once when its life deadline has already been
reached (R138). A new id or an empty slot makes it an activity. -/
def showText (t : Slot) (a : Assembly) (stamp : Nat) (s : State) : State :=
  let life := stamp + Config.lifeTime
  let shown : Option ShownText :=
    if life ≤ s.now then none else some { id := a.id, text := joinedText a, life := life }
  let s' := withSlot t { shown := shown, assembly := none } s
  if showsId a.id (getSlot t s.notices) then s' else activity s'

/-- A TEXT part is added to its slot's assembly (R136), with the completion test (R137) and the case of
an assembly deadline already reached (R138). -/
def addText (q : TextPart) (stamp : Nat) (s : State) : State :=
  if q.count ≤ q.index then setFlag .lineCheckError s
  else
    let x := getSlot q.slot s.notices
    let a := assemblyWith q stamp x
    let s' := if displaces q x then setFlag .textDiscarded s else s
    if complete a then showText q.slot a stamp s'
    else if a.deadline ≤ s.now then
      setFlag .textDiscarded (withSlot q.slot { x with assembly := none } s')
    else withSlot q.slot { x with assembly := some a } s'

/-- A TEXT_CLEAR (R139): the shown text and the assembly of the id leave the slot, with no flag. -/
def clearText (t : Slot) (id : Nat) (s : State) : State :=
  let x := getSlot t s.notices
  withSlot t
    { shown := if showsId id x then none else x.shown
      assembly :=
        match x.assembly with
        | some a => if a.id = id then none else some a
        | none => none }
    s

/-- The assembly deadline of a slot passes (R138). -/
def assemblyExpires (t : Slot) (s : State) : State :=
  let x := getSlot t s.notices
  match x.assembly with
  | some a =>
    if a.deadline ≤ s.now then setFlag .textDiscarded (withSlot t { x with assembly := none } s) else s
  | none => s

/-- The life deadline of a slot passes (R140). -/
def lifeExpires (t : Slot) (s : State) : State :=
  let x := getSlot t s.notices
  match x.shown with
  | some v => if v.life ≤ s.now then withSlot t { x with shown := none } s else s
  | none => s

end Sys2Proof.Machine
end

