-- ==== Sys2Proof/Machine/Transmit.lean ====
section
/-! DEFINITION. The transmit selector and the attempts: offers, the check at transmission begin, the
captured content, and the outcomes WON, LOST and FAULT (R4 to R11, R97, R118, R129, R190, R191). -/

namespace Sys2Proof.Machine

/-! ## The telegrams the station builds (12.1, R194) -/

/-- The lobby floor of a REQ or SHOW: the home floor, which every kiosk and board station has (R27). -/
def lobbyByte (cfg : Settings) : Byte := byteOf (cfg.homeFloor.getD 0)

/-- The class code (12.1). -/
def classCode : ReqClass → Nat
  | .standard => 0
  | .accessible => 1

/-- The REQ of a request entry (R97). -/
def reqFrame (s : State) (r : Request) : Frame :=
  makeFrame .req s.start.address
    ([lobbyByte s.cfg] ++ wordBytes r.tag
      ++ [byteOf r.dest, byteOf (classCode r.cls), byteOf r.count])

/-- The code of a SHOW action (12.1). -/
def showCode : ShowAct → Nat
  | .firstTake => 1
  | .reassert => 1
  | .release => 2

/-- The SHOW of an item (R133). -/
def showFrame (s : State) (i : ShowItem) : Frame :=
  makeFrame .shows s.start.address
    ([lobbyByte s.cfg, byteOf (showCode i.act), byteOf i.key.kiosk] ++ wordBytes i.key.tag)

/-- The reset cause code (12.1). -/
def causeCode : ResetCause → Nat
  | .powerOn => 0
  | .pin => 1
  | .line => 2

/-- The configuration status code (12.1); a STAT is built only once the status is decided. -/
def configCode : Option ConfigStatus → Nat
  | some .ok => 0
  | some .partially => 1
  | some .rejected => 2
  | none => 0

/-- The power state code (12.1). -/
def powerCode : PowerMode → Nat
  | .active => 0
  | .dim => 1
  | .draining => 2
  | .dormant => 3

/-- The key position code (12.1). -/
def positionCode : KeyPosition → Nat
  | .off => 0
  | .on => 1
  | .bypass => 2

/-- A state of two values as a byte field: the latch, 0 CLEAR and 1 SET (12.1). DESIGN CHOICE: muted has no code
in 12.1, and is sent as 1 where it is set and 0 where it is clear (assumption 38). -/
def boolCode (b : Bool) : Nat := if b then 1 else 0

/-- The LIVE record count (R48). -/
def liveCount (s : State) : Nat := (s.cars.filter fun c => c.freshness == .live).length

/-- The Owned count (R107). -/
def ownedCount (s : State) : Nat := (s.prompts.filter fun p => p.board == .owned).length

/-- Muted, as a STAT captures it: MUTED or HELD (R190). -/
def mutedField (s : State) : Bool := s.line.tx == .muted || s.line.tx == .held

/-- The STAT content captured from the blocks (R190). -/
def statFrame (s : State) : Frame :=
  makeFrame .stat s.start.address
    ([byteOf s.start.address, byteOf (causeCode s.start.cause), byteOf (configCode s.start.config),
      byteOf (powerCode s.power.mode), byteOf (boolCode s.recallLatch.latched),
      byteOf (positionCode s.recallLatch.position), byteOf (boolCode (mutedField s)),
      byteOf (liveCount s), byteOf (ownedCount s), byteOf s.requests.entries.length]
      ++ wordBytes s.status.flags.toNat)

/-! ## Offers (R10, R11) -/

/-- The class after a class in the cycle REQ, SHOW, STAT (1.3). -/
def nextClass : TxClass → TxClass
  | .req => .shows
  | .shows => .stat
  | .stat => .req

/-- The classes in the order the selector looks at them (R10). -/
def cycleFrom (c : TxClass) : List TxClass := [c, nextClass c, nextClass (nextClass c)]

/-- The check at transmission begin for a SHOW FIFO item (the table of R11): its own record or entry is there. A
withdrawn item, back from a LOST or FAULT, has none. DEDUCED: a record made anew of its key is not its record
(assumption 29). -/
def mayOffer (s : State) (i : ShowItem) : Bool :=
  !i.withdrawn
    && match i.act with
      | .release => inReleases i.key s.releases
      | .firstTake =>
        s.power.mode != .draining
          && s.prompts.any fun p => p.key == i.key && p.board == .pending && p.takeQueued
      | .reassert =>
        s.power.mode != .draining && s.prompts.any fun p => p.key == i.key && p.board == .owned

/-- The take-queued mark of a TAKE item's record is cleared as the item leaves (R117); the record of a withdrawn
item is gone. -/
def clearMark (i : ShowItem) (s : State) : State :=
  if isTakeOf i.key i then
    { s with prompts := updatePrompt i.key (fun p => { p with takeQueued := false }) s.prompts }
  else s

/-- Items at the head of the FIFO that fail the check are dropped unsent (R11). -/
def dropUnsent : List ShowItem → State → State
  | [], s => { s with showFifo := [] }
  | i :: rest, s =>
    if mayOffer s i then { s with showFifo := i :: rest } else dropUnsent rest (clearMark i s)

/-- The telegram a class offers, with its content, and the state after the class's drops (R10, R11). -/
def offerOf (c : TxClass) (s : State) : State × Option (TxItem × Frame) :=
  match c with
  | .req =>
    match s.requests.entries.find? fun r => !r.sent with
    | some r => (s, some (.req r.tag, reqFrame s r))
    | none => (s, none)
  | .shows =>
    let s' := dropUnsent s.showFifo s
    match s'.showFifo with
    | i :: _ => (s', some (.shows i.act i.key, showFrame s' i))
    | [] => (s', none)
  | .stat =>
    match s.status.slot with
    | some _ => (s, some (.stat, statFrame s))
    | none => (s, none)

/-- The first offer of the classes in turn (R10). -/
def selectOffer : List TxClass → State → State × Option (TxItem × Frame)
  | [], s => (s, none)
  | c :: cs, s =>
    match offerOf c s with
    | (s', some o) => (s', some o)
    | (s', none) => selectOffer cs s'

/-! ## The attempt (R4) -/

/-- The item at the head of the FIFO goes on the line. -/
def headOnLine : List ShowItem → List ShowItem
  | [] => []
  | i :: rest => { i with onLine := true } :: rest

/-- An attempt begins (R4): SENDING, the item marked as on the line, and for a STAT the captured marks
made equal to the flags and the recurred marks cleared (R191). -/
def startSending (item : TxItem) (frame : Frame) (s : State) : State :=
  let sending :=
    { s with
      line :=
        { s.line with
          watch := .busy
          receiving := false
          tx := .sending
          attempt := some { item := item, frame := frame } } }
  match item with
  | .req _ => sending
  | .shows _ _ => { sending with showFifo := headOnLine sending.showFifo }
  | .stat =>
    { sending with status := { sending.status with captured := sending.status.flags, recurred := 0 } }

/-- The selector is asked, and an attempt begins if it has a telegram to offer. -/
def launch (s : State) : State :=
  match selectOffer (cycleFrom s.pointer) s with
  | (s', some o) => startSending o.1 o.2 s'
  | (s', none) => s'

/-- The transmitter and the power state let an attempt begin (R4). -/
def mayTransmit (s : State) : Bool := s.line.tx == .ready && s.power.mode != .dormant

/-- An attempt begins when the line is idle, the transmitter READY, the power state not DORMANT and a
telegram is offered (R4). An item dropped at the offer may free a row, so the holdoff start test
follows. -/
def attemptTest (s : State) : State :=
  if mayTransmit s ∧ s.line.watch = .idle then holdoffTest (launch s) else s

/-! ## Outcomes (R5 to R9) -/

/-- The attempt ends: the transmitter is READY again and no item is on the line. -/
def endAttempt (s : State) : State :=
  { s with
    line := { s.line with tx := .ready, attempt := none }
    showFifo := s.showFifo.map fun i => { i with onLine := false } }

/-- A WON REQ makes its Queued entry Sent (R97). -/
def reqWon (tag : Nat) (s : State) : State :=
  { s with
    requests :=
      { s.requests with
        entries := s.requests.entries.map fun r =>
          if r.tag = tag then { r with sent := true } else r } }

/-- A record whose TAKE was WON while DRAINING goes to the release buffer (R130). DESIGN CHOICE: the record leaves
the table with any local part it holds, since R128 lets no key stand in the table and the buffer at once and
discards the local part of an Owned record that goes there; R130 says that local parts held are kept
(assumption 36). -/
def wonWhileDraining (k : AssignKey) (s : State) : State :=
  bufferRelease (s.power.drainDeadline.getD (s.now + Config.drainLimit)) k (removePrompt k s)

/-- The record of a WON TAKE whose claim holds: Owned, or in DRAINING buffered for release. -/
def claimHolds (k : AssignKey) (s : State) : State :=
  if s.power.mode = .draining then wonWhileDraining k s else ownPrompt k s

/-- A WON SHOW TAKE of a record that has not left meanwhile, its item gone from the FIFO (the table of R118). -/
def takeWon (k : AssignKey) (s : State) : State :=
  let cleared :=
    { s with prompts := updatePrompt k (fun p => { p with takeQueued := false }) s.prompts }
  match findPrompt s.prompts k with
  | none => cleared
  | some p =>
    match p.board, p.claimant with
    | .pending, _ => claimHolds k cleared
    | .watched, some a =>
      let cmp := addressIsLower a cleared
      if cmp.1 then cmp.2
      else if cmp.2.power.mode = .draining then wonWhileDraining k cmp.2
      else setFlag .claimConflict (ownPrompt k cmp.2)
    | .watched, none => cleared
    | .owned, _ => cleared
    | .none, _ => cleared

/-- A WON STAT (R190, R191, R192): the slot is emptied, the flags captured and not recurred are
cleared, the pending mark is cleared, and an alert starts the hold-off. -/
def statWon (s : State) : State :=
  { s with
    status :=
      { s.status with
        slot := none
        flags := s.status.flags &&& ~~~(s.status.captured &&& ~~~s.status.recurred)
        holdOff :=
          if s.status.slot = some .alert then some (s.now + Config.alertHoldOff)
          else s.status.holdOff
        alertPending := false } }

/-- The item of the SHOW on the line stands in the FIFO with its record or entry. The latch (R131) and DORMANT
(R132) purge it, and a record or entry that leaves withdraws it (R112, R126, R128, R129). -/
def showHeld (s : State) : Bool := s.showFifo.any fun i => i.onLine && !i.withdrawn

/-- A WON SHOW (R118, R129): its item leaves the FIFO, and its record or entry is changed. One whose item was purged
or withdrawn while it was on the line finds no record and no entry: its WON does nothing more (R9, R112, R129). -/
def showWon (act : ShowAct) (k : AssignKey) (s : State) : State :=
  let gone := { s with showFifo := s.showFifo.filter fun i => !i.onLine }
  if showHeld s then
    match act with
    | .release => removeRelease k gone
    | _ => takeWon k gone
  else gone

/-- What WON does in the block that owns the telegram (R5). -/
def wonByOwner (item : TxItem) (s : State) : State :=
  match item with
  | .req tag => reqWon tag s
  | .shows act k => showWon act k s
  | .stat => statWon s

/-- The class of a telegram. -/
def classOfItem : TxItem → TxClass
  | .req _ => .req
  | .shows _ _ => .shows
  | .stat => .stat

/-- An attempt ends WON (R5, R10). -/
def attemptWon (a : Attempt) (s : State) : State :=
  let won := endAttempt (wonByOwner a.item s)
  { won with
    line := { won.line with faults := 0 }
    pointer := nextClass (classOfItem a.item) }

/-- An attempt ends LOST: the station receives the winning telegram (R6). -/
def attemptLost (s : State) : State :=
  let ended := endAttempt s
  { ended with line := { ended.line with receiving := true } }

/-- An attempt ends FAULT; the sixteenth brings MUTED (R7, R8). DESIGN CHOICE: the station does not become a
receiver of what a peer may still be sending, of which R7 says nothing: `receiving` stays clear (assumption 39). -/
def attemptFault (s : State) : State :=
  let ended := endAttempt s
  let n := s.line.faults + 1
  if n < Config.faultLimit then { ended with line := { ended.line with faults := n } }
  else
    setFlag .txMuted
      { ended with
        line :=
          { ended.line with
            faults := n
            tx := .muted
            mutedUntil := some (s.now + Config.mutedTime) } }

end Sys2Proof.Machine
end

