-- ==== Sys2Proof/Machine/Settle.lean ====
section
/-! DEFINITION. What follows every command at its instant: the standing conditions of the manual that begin
something as soon as their terms hold. -/

namespace Sys2Proof.Machine

/-- The standing conditions, tested after each command: the drain ends when its terms hold (R175),
holdoffs start (R114), an attempt begins (R4), and every region takes its present string (R164). -/
def settle (s : State) : State := recompose (attemptTest (holdoffTest (drainTest s)))

/-- The head of the receive queue is taken by the block that owns it, if it is an entry this command
takes (R14). Any other take is no event of this state, and changes nothing (assumption 2). A NOTICE or
any other telegram but a QUERY is not acted on in safe mode (R134, R186). -/
def takeHead (fits : RxEntry → Bool) (act : RxEntry → State → State) (s : State) : State :=
  if running s then
    match s.rx.entries with
    | [] => s
    | e :: rest =>
      if fits e then
        let taken := { s with rx := takenQueue rest s.rx }
        settle (if rejected s && e.kind != .query then taken else act e taken)
      else s
  else s

end Sys2Proof.Machine
end

