-- ==== Sys2Proof/Machine/Building.lean ====
section
/-! DEFINITION. The family of building notices and the recall key (chapters 8 and 10): TEXT, TEXT_CLEAR, RECALL,
RECALL_END, NIGHT, DAY, RECALL_KEY_MOVE, ASSEMBLY_DEADLINE, LIFE_DEADLINE. -/

namespace Sys2Proof.Machine

/-- The entry is a NOTICE that a command of this kind takes: the kind's own, or one whose notice kind
names none, which is discarded alike (R134, assumption 3). -/
def fitsNotice (k : NoticeKind) (e : RxEntry) : Bool :=
  e.kind == .notice && ((noticeKindOf (byteAt e.payload 0)).getD k) == k

/-- A notice taken: one whose kind names none is discarded (R134), else its block acts. -/
def noticeTaken (act : RxEntry → State → State) (e : RxEntry) (s : State) : State :=
  match noticeKindOf (byteAt e.payload 0) with
  | none => setFlag .lineCheckError s
  | some _ => act e s

/-- A TEXT part taken (R134, R136, R194). A checked URGENT part is a wake source first (R137, R178). At the
instant at which the idle deadline drained the station, a part that is an activity leaves it DRAINING (R180).
DESIGN CHOICE: at every other instant of a drain it wakes the station, as R178 says (assumption 31). -/
def textTaken (e : RxEntry) (s : State) : State :=
  match textPartOf e.payload with
  | none => setFlag .lineCheckError s
  | some q =>
    let held := idleDrainedNow s && completesNew q e.stamp (getSlot q.slot s.notices)
    addText q e.stamp (if q.slot = .urgent && !held then wakeSource s else s)

/-- TEXT (R136). -/
def execText (s : State) : Host.Outcome State Fault Refusal :=
  .next (takeHead (fitsNotice .text) (noticeTaken textTaken) s)

/-- A TEXT_CLEAR taken (R134, R139, R194). -/
def textClearTaken (e : RxEntry) (s : State) : State :=
  match textClearOf e.payload with
  | none => setFlag .lineCheckError s
  | some (t, id) => clearText t id s

/-- TEXT_CLEAR (R139). -/
def execTextClear (s : State) : Host.Outcome State Fault Refusal :=
  .next (takeHead (fitsNotice .textClear) (noticeTaken textClearTaken) s)

/-- A RECALL taken (R145, R178): a wake source, and SET unless the key is at BYPASS. -/
def recallTaken (_ : RxEntry) (s : State) : State :=
  let woken := wakeSource s
  if s.recallLatch.position = .bypass then woken else latchSet woken

/-- RECALL (R145). -/
def execRecall (s : State) : Host.Outcome State Fault Refusal :=
  .next (takeHead (fitsNotice .recallStart) (noticeTaken recallTaken) s)

/-- A RECALL_END taken (the table of R146). -/
def recallEndTaken (_ : RxEntry) (s : State) : State :=
  match s.recallLatch.position with
  | .off => latchClear s
  | .on => if s.recallLatch.latched then setFlag .recallEndRefused s else s
  | .bypass => s

/-- RECALL_END (R146). -/
def execRecallEnd (s : State) : Host.Outcome State Fault Refusal :=
  .next (takeHead (fitsNotice .recallEnd) (noticeTaken recallEndTaken) s)

/-- A NIGHT taken (the table of R171). -/
def nightTaken (_ : RxEntry) (s : State) : State :=
  match s.power.mode with
  | .active =>
    if s.recallLatch.latched then { s with power := { s.power with night := true } }
    else restartIdle { s with power := { s.power with night := true, mode := .dim } }
  | .dim => s
  | .draining => s
  | .dormant => s

/-- NIGHT (R171). -/
def execNight (s : State) : Host.Outcome State Fault Refusal :=
  .next (takeHead (fitsNotice .night) (noticeTaken nightTaken) s)

/-- A DAY taken (the table of R171). -/
def dayTaken (_ : RxEntry) (s : State) : State :=
  match s.power.mode with
  | .active => if s.recallLatch.latched then { s with power := { s.power with night := false } } else s
  | .dim => { s with power := { s.power with night := false, mode := .active } }
  | .draining => leaveSleep .active { s with power := { s.power with night := false } }
  | .dormant => leaveSleep .active { s with power := { s.power with night := false } }

/-- DAY (R171). -/
def execDay (s : State) : Host.Outcome State Fault Refusal :=
  .next (takeHead (fitsNotice .day) (noticeTaken dayTaken) s)

/-- The contacts as a taken position leaves them. The position read at the contacts, or read by the sampler,
leaves the pins where they stand; any other closes the one contact of the position (assumption 16). -/
def placeContacts (position : KeyPosition) (r : RecallLatch) : RecallLatch :=
  if r.reading = position ∨ contactPosition r = position then r
  else { r with onContact := position == .on, bypassContact := position == .bypass }

/-- A taken key position, with the contacts and the sampler as such a position leaves them (R143). -/
def placeKey (position : KeyPosition) (now : Nat) (r : RecallLatch) : RecallLatch :=
  { placeContacts position r with
    reading := position
    readingSince := if r.reading = position then r.readingSince else now
    position := position }

/-- A move of the key in RUNNING acts on the latch (R145, R146); a move to ON is a wake source (R143). -/
def keyMoveActs (position : KeyPosition) (s : State) : State :=
  match position with
  | .on => latchSet (wakeSource s)
  | .bypass => latchClear s
  | .off => s

/-- The key is sampled: from the start of LOADING, and not when the image marks it as not fitted (R143). -/
def keySampled (s : State) : Bool := s.start.stage != .heldInReset && s.cfg.keyFitted

/-- RECALL_KEY_MOVE (R143): the new position is taken, and from RUNNING on it acts on the latch. -/
def execRecallKeyMove (position : KeyPosition) (s : State) : Host.Outcome State Fault Refusal :=
  .next
    (if keySampled s ∧ s.recallLatch.position ≠ position then
      let moved := { s with recallLatch := placeKey position s.now s.recallLatch }
      if serving s then settle (keyMoveActs position moved) else moved
    else s)

/-- ASSEMBLY_DEADLINE (R138). -/
def execAssemblyDeadline (t : Slot) (s : State) : Host.Outcome State Fault Refusal :=
  .next (settle (assemblyExpires t s))

/-- LIFE_DEADLINE (R140). -/
def execLifeDeadline (t : Slot) (s : State) : Host.Outcome State Fault Refusal :=
  .next (settle (lifeExpires t s))

end Sys2Proof.Machine
end

