-- ==== Sys2Proof/Machine/Cars.lean ====
section
/-! DEFINITION. The family of car records (chapters 3 and 4): CAR, STOPS, TRACKING_INSTANT, STALE_DEADLINE,
LOST_DEADLINE. -/

namespace Sys2Proof.Machine

/-- The record of a car changed by a function. -/
def updateCar (k : CarKey) (f : CarRecord → CarRecord) (cs : List CarRecord) : List CarRecord :=
  cs.map fun c => if c.key = k then f c else c

/-- A record with a report taken and evaluated (R35): LIVE, with both deadlines from the report's stamp. -/
def withReport (cfg : Settings) (now : Nat) (r : Report) (c : CarRecord) : CarRecord :=
  evaluate cfg now
    { c with
      report := some r
      freshness := .live
      staleAt := some (r.stamp + cfg.staleTimeout)
      lostAt := some (r.stamp + cfg.lostTimeout) }

/-- The record a report of an unknown car starts from (R38). -/
def newCar (k : CarKey) : CarRecord :=
  { key := k
    pinned := false
    report := none
    freshness := .awaiting
    staleAt := none
    lostAt := none
    stops := []
    estimate := none
    floor := none
    shown := [] }

/-- The tests that follow a written record: its lanterns, and the phases of its assignments (R49). -/
def carTests (k : CarKey) (s : State) : State :=
  phaseTests (fun p => p.car == k) (testLanterns (fun c => c == k) s)

/-- A record becomes STALE, with the lantern test of its freshness change (R41, R72). -/
def goStale (k : CarKey) (s : State) : State :=
  testLanterns (fun c => c == k) { s with cars := updateCar k staleRecord s.cars }

/-- A report of a pinned car that runs is an activity (R35). -/
def reportActivity (k : CarKey) (r : Report) (s : State) : State :=
  if isPinned s k && runs r.motion then activity s else s

/-- A report written into the table: evaluation, tests and activity, and STALE at the same instant when
it is old enough (R35, R39). -/
def writeReport (k : CarKey) (r : Report) (cars : List CarRecord) (s : State) : State :=
  let written := reportActivity k r (carTests k { s with cars := cars })
  if s.cfg.staleTimeout ≤ s.now - r.stamp then goStale k written else written

/-- A checked report of a station that is not DORMANT (R35, R38, R39). -/
def enterReport (k : CarKey) (r : Report) (s : State) : State :=
  if s.cfg.lostTimeout ≤ s.now - r.stamp then s
  else
    match findCar s.cars k with
    | some _ => writeReport k r (updateCar k (withReport s.cfg s.now r) s.cars) s
    | none =>
      if s.cars.length < Config.carCapacity then
        writeReport k r (s.cars ++ [withReport s.cfg s.now r (newCar k)]) s
      else setFlag .carTableFull s

/-- The report is a wake source: a pinned car that runs or whose door is OPENING (R178). -/
def reportWakes (k : CarKey) (r : Report) (s : State) : Bool :=
  isPinned s k && (runs r.motion || r.door == .opening)

/-- The report is an activity: an entered one of a pinned car that runs (R35, R39, R173). -/
def reportActs (k : CarKey) (r : Report) (s : State) : Bool :=
  isPinned s k && runs r.motion && decide (s.now - r.stamp < s.cfg.lostTimeout)

/-- A CAR taken (R34 to R39, R47, R178). While DORMANT it is not entered and only its motion and door are
read. At the instant at which the idle deadline drained the station, one that is an activity leaves it
DRAINING (R180). DESIGN CHOICE: at every other instant of a drain it wakes the station, as R178 says of every
wake source (assumption 31). DESIGN CHOICE: a CAR that fails R34 sets LINE_CHECK_ERROR in DORMANT too, of a
pinned car or of any other; R34 has the check before any other use, and R47 gives a CAR taken in DORMANT no
effect but a pinned car's wake (assumption 33). -/
def carTaken (e : RxEntry) (s : State) : State :=
  match reportOf (floorCount s.cfg) e with
  | none => setFlag .lineCheckError s
  | some r =>
    let k := carKeyOf (byteAt e.payload 0)
    let woken :=
      if reportWakes k r s && !(idleDrainedNow s && reportActs k r s) then wakeSource s else s
    if s.power.mode = .dormant then woken else enterReport k r woken

/-- CAR (R35). -/
def execCar (s : State) : Host.Outcome State Fault Refusal :=
  .next (takeHead (fun e => e.kind == .car) carTaken s)

/-- A record whose stop list a STOPS replaces: LIVE or STALE (R45, R46). -/
def takesStops (c : CarRecord) : Bool := c.freshness == .live || c.freshness == .stale

/-- A STOPS taken (R44 to R46). -/
def stopsTaken (e : RxEntry) (s : State) : State :=
  { s with
    cars :=
      updateCar (carKeyOf (byteAt e.payload 0))
        (fun c => if takesStops c then { c with stops := stopListOf (floorCount s.cfg) e.payload } else c)
        s.cars }

/-- STOPS (R45). -/
def execStops (s : State) : Host.Outcome State Fault Refusal :=
  .next (takeHead (fun e => e.kind == .stops) stopsTaken s)

/-- The car has a LIVE record. -/
def isLive (cs : List CarRecord) (k : CarKey) : Bool := cs.any fun c => c.key == k && c.freshness == .live

/-- A record at a tracking instant: evaluated if LIVE (R49). -/
def trackRecord (cfg : Settings) (now : Nat) (c : CarRecord) : CarRecord :=
  if c.freshness = .live then evaluate cfg now c else c

/-- Every LIVE record evaluated, then its lanterns and its assignments' phases tested (R49). -/
def trackAll (s : State) : State :=
  let tracked := { s with cars := s.cars.map (trackRecord s.cfg s.now) }
  phaseTests (fun _ => true) (testLanterns (isLive s.cars) tracked)

/-- TRACKING_INSTANT (R49): a station time that is a whole multiple of the tracking interval. -/
def execTrackingInstant (s : State) : Host.Outcome State Fault Refusal :=
  .next
    (if s.now % Config.trackingInterval = 0 ∧ serving s then settle (trackAll s) else s)

/-- The stale deadline of a LIVE record has been reached. -/
def staleDue (now : Nat) (k : CarKey) (c : CarRecord) : Bool :=
  c.key == k && c.freshness == .live && passed now c.staleAt

/-- STALE_DEADLINE (R41). -/
def execStaleDeadline (k : CarKey) (s : State) : Host.Outcome State Fault Refusal :=
  .next (if s.cars.any (staleDue s.now k) then settle (goStale k s) else s)

/-- The lost deadline of a record has been reached. -/
def lostDue (now : Nat) (k : CarKey) (c : CarRecord) : Bool :=
  c.key == k && (c.freshness == .live || c.freshness == .stale) && passed now c.lostAt

/-- A pinned record becomes LOST (R42). -/
def loseRecord (c : CarRecord) : CarRecord :=
  { c with
    report := c.report.map fun r => { r with nextStop := none }
    freshness := .lost
    staleAt := none
    lostAt := none
    stops := []
    estimate := none
    floor := none
    shown := [] }

/-- A record at its lost deadline: LOST if pinned, else removed (R42). -/
def atLostDeadline (now : Nat) (k : CarKey) (c : CarRecord) : Option CarRecord :=
  if lostDue now k c then (if c.pinned then some (loseRecord c) else none) else some c

/-- LOST_DEADLINE (R42), with the lantern test of the freshness change (R72). -/
def execLostDeadline (k : CarKey) (s : State) : Host.Outcome State Fault Refusal :=
  .next
    (if s.cars.any (lostDue s.now k) then
      settle
        (testLanterns (fun c => c == k) { s with cars := s.cars.filterMap (atLostDeadline s.now k) })
    else s)

end Sys2Proof.Machine
end

