-- ==== Sys2Proof/Machine/Line.lean ====
section
/-! DEFINITION. The family of the fixture line (chapter 1, R197): TELEGRAM_RECEIVED, LINE_IDLE, ATTEMPT_WON,
ATTEMPT_LOST, ATTEMPT_FAULT, MUTED_DEADLINE, LINE_BUSY. -/

namespace Sys2Proof.Machine

/-- The receiver is joined to the line and has seen it idle once (R188). -/
def joined (s : State) : Bool := s.line.watch == .busy || s.line.watch == .idle

/-- A telegram has just ended on the line, which stays busy until 2 T have passed. -/
def telegramEnds (s : State) : State :=
  { s with line := { s.line with watch := .busy, receiving := false } }

/-- The queue entry of a telegram that completes now: its arrival stamp is the station time (R3). -/
def entryOf (s : State) (k : Kind) (f : Frame) : RxEntry :=
  { kind := k, source := f.source.toNat, payload := f.payload, stamp := s.now }

/-- A completed telegram checked (R3), filtered (R12) and queued (R15 to R17). -/
def receive (f : Frame) (s : State) : State :=
  match checkedKind f with
  | none => setFlag .lineCheckError s
  | some k => if admits s k f.payload then arrive (entryOf s k f) s else s

/-- TELEGRAM_RECEIVED (R3). With the receiver off or still joining nothing is received and no flag set (R3,
R187, R188), and the station's own telegram is not taken in (R1). -/
def execTelegramReceived (f : Frame) (s : State) : Host.Outcome State Fault Refusal :=
  .next
    (if joined s ∧ s.line.tx ≠ .sending then settle (receive f (telegramEnds s)) else s)

/-- The line is idle. -/
def lineGoesIdle (s : State) : State :=
  { s with line := { s.line with watch := .idle, receiving := false } }

/-- LINE_IDLE (R197): 2 T without a dominant edge. An unfinished telegram is cut short, which fails R3; the
first idle after RUNNING begins joins the receiver (R188). -/
def execLineIdle (s : State) : Host.Outcome State Fault Refusal :=
  .next
    (match s.line.watch with
    | .off => s
    | .idle => s
    | .joining => settle (lineGoesIdle s)
    | .busy =>
      if s.line.tx = .sending then s
      else if s.line.receiving then settle (setFlag .lineCheckError (lineGoesIdle s))
      else settle (lineGoesIdle s))

/-- The attempt on the line, while SENDING. -/
def onLine (s : State) : Option Attempt := if s.line.tx = .sending then s.line.attempt else none

/-- ATTEMPT_WON (R5). -/
def execAttemptWon (s : State) : Host.Outcome State Fault Refusal :=
  .next
    (match onLine s with
    | some a => settle (attemptWon a s)
    | none => s)

/-- ATTEMPT_LOST (R6). -/
def execAttemptLost (s : State) : Host.Outcome State Fault Refusal :=
  .next
    (match onLine s with
    | some _ => settle (attemptLost s)
    | none => s)

/-- ATTEMPT_FAULT (R7). -/
def execAttemptFault (s : State) : Host.Outcome State Fault Refusal :=
  .next
    (match onLine s with
    | some _ => settle (attemptFault s)
    | none => s)

/-- MUTED_DEADLINE (R8): the fault count is cleared and the transmitter READY. -/
def execMutedDeadline (s : State) : Host.Outcome State Fault Refusal :=
  .next
    (if s.line.tx = .muted ∧ passed s.now s.line.mutedUntil then
      settle { s with line := { s.line with tx := .ready, faults := 0, mutedUntil := none } }
    else s)

/-- The bit time in nanoseconds for a rate code (R184, 12.5). -/
def bitTime (rate : BitVec 2) : Nat :=
  match rate.toNat with
  | 0 => 8000
  | 1 => 4000
  | 2 => 2000
  | _ => 4000

/-- The station becomes a receiver of the telegram that begins. DESIGN CHOICE: where it was still receiving one that
its sender broke off, it goes on as a receiver and sets no LINE_CHECK_ERROR for the fragment, since R3 and R197 cut
a telegram short at 2 T of idle alone (assumption 40). -/
def beginReceiving (s : State) : State :=
  if s.line.tx = .sending then s
  else { s with line := { s.line with watch := .busy, receiving := true } }

/-- A telegram whose sender broke off is cut short by the edge the station begins with: it fails R3 as one
that the idle line cuts short does (DEDUCED, assumption 32). -/
def cutShort (s : State) : State := if s.line.receiving then setFlag .lineCheckError s else s

/-- An attempt is pending: a class has a telegram to offer (R4, R10). -/
def hasOffer (s : State) : Bool := (selectOffer (cycleFrom s.pointer) s).2.isSome

/-- LINE_BUSY (R197): a peer's first edge. A pending attempt planned less than T/4 after it begins with it,
also when the line was still busy with a telegram that its sender broke off; if none is pending, or it
was planned later, the station receives. DESIGN CHOICE: while the receiver is still joining, R188 has the line
count as busy and nothing received, so the edge does nothing and no attempt begins with it, although R197 read
alone would let one begin (assumption 34). -/
def execLineBusy (planned : Nat) (s : State) : Host.Outcome State Fault Refusal :=
  .next
    (if joined s ∧ s.line.tx ≠ .sending then
      if mayTransmit s ∧ planned * 4 < bitTime s.start.rateCode ∧ hasOffer s then
        settle (launch (cutShort s))
      else settle (beginReceiving s)
    else s)

end Sys2Proof.Machine
end

