-- ==== Sys2Proof/Machine/Lobby.lean ====
section
/-! DEFINITION. The family of the lobby (chapters 6 and 7): ASSIGN, SHOW_TAKE, SHOW_RELEASE and the deadlines
of requests, prompt records and the release buffer. -/

namespace Sys2Proof.Machine

/-- An ASSIGN taken: its field check, then the request file and the prompt table (R98). DEDUCED: the check is made
in every power state, as R98 names none (assumption 30). -/
def assignEntry (e : RxEntry) (s : State) : State :=
  match assignOf (floorCount s.cfg) e.payload with
  | none => setFlag .lineCheckError s
  | some a => assignTaken a s

/-- ASSIGN (R98). -/
def execAssign (s : State) : Host.Outcome State Fault Refusal :=
  .next (takeHead (fun e => e.kind == .assign) assignEntry s)

/-- The entry is a SHOW that a command of this action takes: the action's own, or one whose action
names neither, which is discarded alike (R119, assumption 3). -/
def fitsShow (a : ShowAction) (e : RxEntry) : Bool :=
  e.kind == .shows && ((showActionOf (byteAt e.payload 1)).getD a) == a

/-- SHOW_TAKE (R119). -/
def execShowTake (s : State) : Host.Outcome State Fault Refusal :=
  .next (takeHead (fitsShow .take) showTaken s)

/-- SHOW_RELEASE (R123). -/
def execShowRelease (s : State) : Host.Outcome State Fault Refusal :=
  .next (takeHead (fitsShow .release) showTaken s)

/-- The request's timeout has been reached (R101). -/
def requestDue (s : State) (r : Request) : Bool := r.created + s.cfg.requestTimeout ≤ s.now

/-- The request of a tag whose timeout has been reached. -/
def dueRequest (s : State) (tag : Nat) : Option Request :=
  s.requests.entries.find? fun r => r.tag == tag && requestDue s r

/-- A request given up: it leaves the file, TRY_AGAIN is shown and REQUEST_TIMEOUT set (R101). -/
def giveUp (r : Request) (s : State) : State :=
  setFlag .requestTimeout
    (makePrompt (.tryAgain r.dest) Config.tryAgainPromptTime
      { s with
        requests :=
          { s.requests with entries := s.requests.entries.filter fun q => q.tag != r.tag } })

/-- REQUEST_TIMEOUT (R101). -/
def execRequestTimeout (tag : Nat) (s : State) : Host.Outcome State Fault Refusal :=
  .next
    (match dueRequest s tag with
    | some r => settle (giveUp r s)
    | none => s)

/-- The local display deadline of the key's record has been reached. -/
def localDue (now : Nat) (k : AssignKey) (p : PromptRecord) : Bool :=
  p.key == k && passed now p.localUntil

/-- A record at its local display deadline: the local part is dropped, and the record leaves if it has no
board state (R112). -/
def dropLocal (now : Nat) (k : AssignKey) (p : PromptRecord) : Option PromptRecord :=
  if localDue now k p then
    (if p.board = .none then none else some { p with localUntil := none })
  else some p

/-- LOCAL_DISPLAY_DEADLINE (R112). -/
def execLocalDisplayDeadline (k : AssignKey) (s : State) : Host.Outcome State Fault Refusal :=
  .next
    (if s.prompts.any (localDue s.now k) then
      settle { s with prompts := s.prompts.filterMap (dropLocal s.now k) }
    else s)

/-- The validity deadline of the key's record has been reached. -/
def validityDue (now : Nat) (k : AssignKey) (p : PromptRecord) : Bool :=
  p.key == k && p.validUntil ≤ now

/-- VALIDITY_DEADLINE (R112): the record leaves without a telegram. -/
def execValidityDeadline (k : AssignKey) (s : State) : Host.Outcome State Fault Refusal :=
  .next (if s.prompts.any (validityDue s.now k) then settle (removePrompt k s) else s)

/-- The holdoff of the key's record has been reached. -/
def holdoffDue (now : Nat) (k : AssignKey) (p : PromptRecord) : Bool :=
  p.key == k && passed now p.holdoff

/-- A holdoff expires: the mark is set and a SHOW TAKE joins the FIFO (R117). -/
def queueTake (k : AssignKey) (s : State) : State :=
  { s with
    prompts := updatePrompt k (fun p => { p with holdoff := none, takeQueued := true }) s.prompts
    showFifo := s.showFifo ++ [{ act := .firstTake, key := k, onLine := false }] }

/-- HOLDOFF_DEADLINE (R117). -/
def execHoldoffDeadline (k : AssignKey) (s : State) : Host.Outcome State Fault Refusal :=
  .next (if s.prompts.any (holdoffDue s.now k) then settle (queueTake k s) else s)

/-- The release deadline of the key's entry has been reached. -/
def releaseDue (now : Nat) (k : AssignKey) (r : ReleaseEntry) : Bool :=
  r.key == k && r.deadline ≤ now

/-- RELEASE_DEADLINE (R129): the entry leaves with its RELEASE unsent. -/
def execReleaseDeadline (k : AssignKey) (s : State) : Host.Outcome State Fault Refusal :=
  .next (if s.releases.any (releaseDue s.now k) then settle (removeRelease k s) else s)

end Sys2Proof.Machine
end

