-- ==== Sys2Proof/Machine/Panel.lean ====
section
/-! DEFINITION. The family of the fixture's own side: KEY_DOWN, KEY_UP, KEY_STUCK, ENTRY_DEADLINE,
PROMPT_DEADLINE (chapter 6), CHIME_TONE_END, CHIME_GAP_END, CHIME_SPACING_END (chapter 5),
SCROLL_DEADLINE, BLINK_PHASE_CHANGE (chapter 9). -/

namespace Sys2Proof.Machine

/-- KEY_DOWN (R86). -/
def execKeyDown (keys : List Key) (s : State) : Host.Outcome State Fault Refusal :=
  .next (if scannerRuns s then settle (keysDown keys s) else s)

/-- KEY_UP (R85). -/
def execKeyUp (k : Key) (s : State) : Host.Outcome State Fault Refusal :=
  .next (if scannerRuns s ∧ keyState s k ≠ .up then settle (keyGoesUp k s) else s)

/-- KEY_STUCK (R87). -/
def execKeyStuck (k : Key) (s : State) : Host.Outcome State Fault Refusal :=
  .next (if scannerRuns s then settle (keySticks k s) else s)

/-- ENTRY_DEADLINE (R93): the entry returns to IDLE; the prompt slot stands. -/
def execEntryDeadline (s : State) : Host.Outcome State Fault Refusal :=
  .next
    (if s.entry.entering ∧ passed s.now s.entry.deadline then
      settle { s with entry := entryToIdle s.entry }
    else s)

/-- The prompt in the slot has been shown for its time. -/
def promptDue (s : State) : Bool :=
  match s.entry.prompt with
  | some p => p.ends ≤ s.now
  | none => false

/-- PROMPT_DEADLINE (R104). -/
def execPromptDeadline (s : State) : Host.Outcome State Fault Refusal :=
  .next (if promptDue s then settle { s with entry := { s.entry with prompt := none } } else s)

/-- The player at the end of a tone: its gap begins (R81). -/
def afterTone (now : Nat) (c : Chime) : Chime :=
  match c.player with
  | .tone e left ends =>
    if ends ≤ now then { c with player := .gap e left (now + Config.gapTime) } else c
  | _ => c

/-- CHIME_TONE_END (R81). -/
def execChimeToneEnd (s : State) : Host.Outcome State Fault Refusal :=
  .next (settle { s with chime := afterTone s.now s.chime })

/-- The player at the end of a gap: the next stroke, or spacing (R81). -/
def afterGap (now : Nat) (c : Chime) : Chime :=
  match c.player with
  | .gap e left ends =>
    if ends ≤ now then
      match left with
      | 0 => { c with player := .spacing (now + Config.spacingTime) }
      | n + 1 => { c with player := .tone e n (now + Config.toneTime) }
    else c
  | _ => c

/-- CHIME_GAP_END (R81). -/
def execChimeGapEnd (s : State) : Host.Outcome State Fault Refusal :=
  .next (settle { s with chime := afterGap s.now s.chime })

/-- The player at the end of spacing: it takes the head entry, or is IDLE (R81). -/
def afterSpacing (now : Nat) (c : Chime) : Chime :=
  match c.player with
  | .spacing ends => if ends ≤ now then takeChime now c.queue else c
  | _ => c

/-- CHIME_SPACING_END (R81). -/
def execChimeSpacingEnd (s : State) : Host.Outcome State Fault Refusal :=
  .next (settle { s with chime := afterSpacing s.now s.chime })

/-- SCROLL_DEADLINE (R163); no pass runs in DORMANT (R166). -/
def execScrollDeadline (region : Nat) (s : State) : Host.Outcome State Fault Refusal :=
  .next
    (if s.power.mode = .dormant then s
    else
      settle
        { s with
          display :=
            { s.display with
              regions :=
                s.display.regions.modify region fun v =>
                  if scrollDue s.now v then scrollStep s.now s.cfg.scrollStep v else v } })

/-- The blink phase at a station time (R162). -/
def blinkAt (now : Nat) : Bool := now % (2 * Config.blinkHalf) < Config.blinkHalf

/-- BLINK_PHASE_CHANGE (R162). -/
def execBlinkPhaseChange (s : State) : Host.Outcome State Fault Refusal :=
  .next { s with display := { s.display with blinkOn := blinkAt s.now } }

end Sys2Proof.Machine
end

