-- ==== Sys2Proof/Machine/Power.lean ====
section
/-! DEFINITION. The family of the power controller (chapter 10): WAKE_SLEEP, WAKE_WAKE, IDLE_DEADLINE,
DRAIN_DEADLINE. -/

namespace Sys2Proof.Machine

/-- The entry is a WAKE that a command of this action takes: the action's own, or one whose action
names neither, which is discarded alike (R172, assumption 3). -/
def fitsWake (a : WakeAction) (e : RxEntry) : Bool :=
  e.kind == .wake && ((wakeActionOf (byteAt e.payload 1)).getD a) == a

/-- A WAKE taken (the table of R172). -/
def wakeTaken (e : RxEntry) (s : State) : State :=
  match wakeActionOf (byteAt e.payload 1), s.power.mode with
  | none, _ => setFlag .lineCheckError s
  | some .sleep, .dim => drainEntry s
  | some .sleep, _ => s
  | some .wake, .active => restartIdle s
  | some .wake, .dim => restartIdle s
  | some .wake, _ => wakeSource s

/-- WAKE with action SLEEP (R172). -/
def execWakeSleep (s : State) : Host.Outcome State Fault Refusal :=
  .next (takeHead (fitsWake .sleep) wakeTaken s)

/-- WAKE with action WAKE (R172). -/
def execWakeWake (s : State) : Host.Outcome State Fault Refusal :=
  .next (takeHead (fitsWake .wake) wakeTaken s)

/-- IDLE_DEADLINE (R173): only a DIM station drains. -/
def execIdleDeadline (s : State) : Host.Outcome State Fault Refusal :=
  .next
    (if s.power.mode = .dim ∧ passed s.now s.power.idleDeadline then settle (idleDrain s) else s)

/-- DRAIN_DEADLINE (R175): DORMANT, with any release unsent. -/
def execDrainDeadline (s : State) : Host.Outcome State Fault Refusal :=
  .next
    (if s.power.mode = .draining ∧ passed s.now s.power.drainDeadline then settle (dormantEntry s)
    else s)

end Sys2Proof.Machine
end

