-- ==== Sys2Proof/Machine/StartUp.lean ====
section
/-! DEFINITION. The family of resets and start-up (11.1 to 11.4): RESET_ASSERTED, POWER_ON_RESET, PIN_RESET,
LOADING_END, SELF_CHECK_END. -/

namespace Sys2Proof.Machine

/-! ## Resets -/

/-- A key as the scanner starts with it (R84): UP, and its contact not yet seen closed. -/
def freshKey (now : Nat) (r : KeyRecord) : KeyRecord :=
  { r with reading := false, readingSince := now, state := .up, stateSince := now }

/-- The state every reset leaves (R183), the station held in reset. The timebase runs on, the pins keep
their levels, the waiting commands wait, and the tag counter and the LFSR keep their values, which a
POWER_ON or PIN reset then loads. -/
def resetStation (s : State) : State :=
  { State.reset with
    now := s.now
    pending := s.pending
    tieDraws := s.tieDraws
    start := { s.start with stage := .heldInReset, config := none }
    requests := { entries := [], tagCounter := s.requests.tagCounter }
    claim := { s.claim with lfsr := s.claim.lfsr }
    keypad := { keys := s.keypad.keys.map (freshKey s.now), locked := false }
    recallLatch :=
      { s.recallLatch with
        reading := contactPosition s.recallLatch
        readingSince := s.now
        position := .off
        latched := false }
    display := { regions := [], blinkOn := s.display.blinkOn } }

/-- The address the straps give: a reading of 127 is not an address (R184). -/
def strapAddress (straps : BitVec 7) : Nat := if straps = 127 then 0 else straps.toNat

/-- The reset ends with its cause: the straps are sampled and LOADING begins (R182, R184). -/
def beginLoading (cause : ResetCause) (s : State) : State :=
  { s with
    start :=
      { s.start with
        address := strapAddress s.start.addressPins
        addressRefused := s.start.addressPins == 127
        rateCode := s.start.ratePins
        stage := .loading
        cause := cause } }

/-- The tag counter set to 1 and the LFSR loaded from the address (R116, R183). -/
def reseed (s : State) : State :=
  { s with
    requests := { s.requests with tagCounter := 1 }
    claim := { s.claim with lfsr := lfsrSeed s.start.address } }

/-- The station stays in reset while the reset pin is asserted or the supply is low (R182). -/
def holdInReset (s : State) : State :=
  if s.start.resetPinAsserted ∨ s.start.supplyLow then
    { s with start := { s.start with stage := .heldInReset } }
  else s

/-- The straps as the pins now stand. -/
def withStraps (address : BitVec 7) (rate : BitVec 2) (s : State) : State :=
  { s with start := { s.start with addressPins := address, ratePins := rate } }

/-- The reset inputs with one of them asserted. -/
def assertReset (source : ResetSource) (s : State) : State :=
  match source with
  | .pin => { s with start := { s.start with resetPinAsserted := true } }
  | .supply => { s with start := { s.start with supplyLow := true } }

/-- RESET_ASSERTED (R182, R183): the station is held in reset, its outputs in their reset levels. -/
def execResetAsserted (source : ResetSource) (s : State) : Host.Outcome State Fault Refusal :=
  .next (resetStation (assertReset source s))

/-- POWER_ON_RESET (R182, R183): the supply rises through its threshold. -/
def execPowerOnReset (address : BitVec 7) (rate : BitVec 2) (s : State) :
    Host.Outcome State Fault Refusal :=
  let risen := { s with start := { s.start with supplyLow := false } }
  .next (holdInReset (reseed (beginLoading .powerOn (resetStation (withStraps address rate risen)))))

/-- PIN_RESET (R182, R183): the reset pin is released. -/
def execPinReset (address : BitVec 7) (rate : BitVec 2) (s : State) :
    Host.Outcome State Fault Refusal :=
  let released := { s with start := { s.start with resetPinAsserted := false } }
  .next (holdInReset (reseed (beginLoading .pin (resetStation (withStraps address rate released)))))

/-- A LINE reset (R182, R183, R189): the tag counter and the LFSR are kept. -/
def lineReset (s : State) : State := beginLoading .line (resetStation s)

/-! ## RUNNING -/

/-- A pinned record as RUNNING creates it (R32, R33). -/
def awaitingRecord (k : CarKey) : CarRecord :=
  { key := k
    pinned := true
    report := none
    freshness := .awaiting
    staleAt := none
    lostAt := none
    stops := []
    estimate := none
    floor := none
    shown := [] }

/-- A lantern as RUNNING creates it (R71). -/
def darkLantern (e : LanternEntry) : Lantern := { entry := e, lit := false, doorSeen := false }

/-- A region as RUNNING finds it, beginning its pass (R152). -/
def freshView (now : Nat) (g : Region) : RegionView :=
  beginPass now { region := g, text := [], offset := 0, deadline := none, stepping := false }

/-- Each block takes up its running state, in a station whose status is OK or PARTIAL (R188). -/
def takeUpRunning (s : State) : State :=
  let latched := s.recallLatch.position == .on
  let up :=
    restartIdle
      { s with
        cars := s.cfg.pinned.map awaitingRecord
        lanterns := s.cfg.lanterns.map darkLantern
        chime := silentChime
        keypad := { keys := s.keypad.keys.map (freshKey s.now), locked := false }
        entry := EntryController.idle
        recallLatch := { s.recallLatch with latched := latched }
        display := { s.display with regions := s.cfg.regions.map (freshView s.now) } }
  if latched then latchEffects up else up

/-- RUNNING begins with the transmitter as the self-check left it (R188); a REJECTED station enters safe
mode instead (R186). -/
def beginRunning (tx : TxState) (s : State) : State :=
  let joined :=
    { s with
      start := { s.start with stage := .running }
      line := { s.line with watch := .joining, receiving := false, tx := tx, testStat := none } }
  settle (startupAlerts (if rejected joined then joined else takeUpRunning joined))

/-- The configuration status and what is kept of the image (R184, R185); a key marked as not fitted is
held at OFF (R143). -/
def decideConfig (memory : List Byte) (s : State) : State :=
  match loadImage memory s.start.address with
  | none =>
    { s with cfg := Settings.none, start := { s.start with config := some .rejected } }
  | some (cfg, partially) =>
    { s with
      cfg := cfg
      start :=
        { s.start with
          config := some (if partially || s.start.addressRefused then .partially else .ok) }
      recallLatch := { s.recallLatch with position := if cfg.keyFitted then s.recallLatch.position else .off } }

/-- SELF_CHECK begins: the test STAT is built from the station as it stands (R187). -/
def beginSelfCheck (s : State) : State :=
  { s with
    start := { s.start with stage := .selfCheck }
    line := { s.line with testStat := some (statFrame s) } }

/-- LOADING_END (R185): the configuration status is decided, and SELF_CHECK follows, or RUNNING at address
0, where it is skipped (R187). -/
def execLoadingEnd (memory : List Byte) (s : State) : Host.Outcome State Fault Refusal :=
  .next
    (if s.start.stage = .loading then
      let decided := decideConfig memory s
      if decided.start.address = 0 then beginRunning .off decided else beginSelfCheck decided
    else s)

/-- SELF_CHECK_END (R187, R188): READY when every bit came back, HELD with TX_MUTED otherwise. -/
def execSelfCheckEnd (loop : LoopBack) (s : State) : Host.Outcome State Fault Refusal :=
  .next
    (if s.start.stage = .selfCheck then
      match loop with
      | .everyBitEqual => beginRunning .ready s
      | .someBitDifferent => beginRunning .held (setFlag .txMuted s)
      | .checkFailed => beginRunning .held (setFlag .txMuted s)
      | .noCompleteTelegram => beginRunning .held (setFlag .txMuted s)
    else s)

end Sys2Proof.Machine
end

