-- ==== Sys2Proof/Machine/Station.lean ====
section
/-! DEFINITION. The family of QUERY and the alert hold-off (11.5 to 11.7): QUERY_STATUS, QUERY_RESTART,
ALERT_HOLD_OFF_DEADLINE. -/

namespace Sys2Proof.Machine

/-- The entry is a QUERY that a command of this action takes: the action's own, or one whose action
names neither, which is discarded alike (R189, assumption 3). -/
def fitsQuery (a : QueryAction) (e : RxEntry) : Bool :=
  e.kind == .query && ((queryActionOf (byteAt e.payload 1)).getD a) == a

/-- A STATUS fills an empty slot, marked solicited; address 0 never transmits (R189). -/
def answerStatus (s : State) : State :=
  if s.start.address = 0 then s
  else
    match s.status.slot with
    | some _ => s
    | none => { s with status := { s.status with slot := some .solicited } }

/-- A RESTART is accepted: to the station's own address, with the latch CLEAR and a status that is not
REJECTED (R189). -/
def restartAccepted (target : Nat) (s : State) : Bool :=
  targetsOwn s target && !s.recallLatch.latched && !rejected s

/-- A QUERY taken (R177, R189): ignored in DRAINING and DORMANT. -/
def queryTaken (e : RxEntry) (s : State) : State :=
  if asleep s.power.mode then s
  else
    match queryActionOf (byteAt e.payload 1) with
    | none => setFlag .lineCheckError s
    | some .status => answerStatus s
    | some .restart => if restartAccepted (byteAt e.payload 0) s then lineReset s else s

/-- QUERY with action STATUS (R189). -/
def execQueryStatus (s : State) : Host.Outcome State Fault Refusal :=
  .next (takeHead (fitsQuery .status) queryTaken s)

/-- QUERY with action RESTART (R189). -/
def execQueryRestart (s : State) : Host.Outcome State Fault Refusal :=
  .next (takeHead (fitsQuery .restart) queryTaken s)

/-- The hold-off ends (R192): a pending alert is queued in an empty slot, and the mark is cleared. -/
def endHoldOff (t : StatusBlock) : StatusBlock :=
  { t with
    slot :=
      match t.slot with
      | some o => some o
      | none => if t.alertPending then some .alert else none
    holdOff := none
    alertPending := false }

/-- ALERT_HOLD_OFF_DEADLINE (R192). -/
def execAlertHoldOffDeadline (s : State) : Host.Outcome State Fault Refusal :=
  .next
    (if passed s.now s.status.holdOff then settle { s with status := endHoldOff s.status } else s)

end Sys2Proof.Machine
end

