-- ==== Sys2Proof/Machine/Clock.lean ====
section
/-! DEFINITION. The station timebase (assumption 5): what the station does by itself when no command waits.
First it queues the commands of every deadline that has passed; when none has, the timebase advances
by 1 ms, the contacts are sampled, and the commands of the new instant are queued. -/

namespace Sys2Proof.Machine

/-- A command, when its condition holds. -/
def when (b : Bool) (c : Instr) : List Instr := if b then [c] else []

/-! ## Deadlines that have passed -/

/-- Deadlines of the line interface and of status. -/
def dueLine (s : State) : List Instr :=
  when (s.line.tx == .muted && passed s.now s.line.mutedUntil) .mutedDeadline
    ++ when (passed s.now s.status.holdOff) .alertHoldOffDeadline

/-- Deadlines of the car records. -/
def dueCars (s : State) : List Instr :=
  s.cars.flatMap fun c =>
    when (staleDue s.now c.key c) (.staleDeadline c.key)
      ++ when (lostDue s.now c.key c) (.lostDeadline c.key)

/-- The chime player's deadline. -/
def dueChime (s : State) : List Instr :=
  match s.chime.player with
  | .idle => []
  | .tone _ _ ends => when (ends ≤ s.now) .chimeToneEnd
  | .gap _ _ ends => when (ends ≤ s.now) .chimeGapEnd
  | .spacing ends => when (ends ≤ s.now) .chimeSpacingEnd

/-- Deadlines of the keypad, the entry and the request file. -/
def dueKiosk (s : State) : List Instr :=
  (if scannerRuns s then
    s.keypad.keys.flatMap fun r => when (stuckDue s.now r.key r) (.keyStuck r.key)
  else [])
    ++ when (s.entry.entering && passed s.now s.entry.deadline) .entryDeadline
    ++ when (promptDue s) .promptDeadline
    ++ s.requests.entries.flatMap fun r => when (requestDue s r) (.requestTimeout r.tag)

/-- Deadlines of the prompt table and the release buffer. -/
def dueBoard (s : State) : List Instr :=
  (s.prompts.flatMap fun p =>
    when (localDue s.now p.key p) (.localDisplayDeadline p.key)
      ++ when (validityDue s.now p.key p) (.validityDeadline p.key)
      ++ when (holdoffDue s.now p.key p) (.holdoffDeadline p.key))
    ++ s.releases.flatMap fun r => when (releaseDue s.now r.key r) (.releaseDeadline r.key)

/-- Deadlines of the power controller. -/
def duePower (s : State) : List Instr :=
  when (s.power.mode == .dim && passed s.now s.power.idleDeadline) .idleDeadline
    ++ when (s.power.mode == .draining && passed s.now s.power.drainDeadline) .drainDeadline

/-- Deadlines of one text slot. -/
def dueSlot (now : Nat) (t : Slot) (x : TextSlot) : List Instr :=
  (match x.assembly with
    | some a => when (a.deadline ≤ now) (.assemblyDeadline t)
    | none => [])
    ++ match x.shown with
      | some v => when (v.life ≤ now) (.lifeDeadline t)
      | none => []

/-- Scroll deadlines, in DORMANT none. -/
def dueScroll (s : State) : List Instr :=
  if s.power.mode = .dormant then []
  else
    (s.display.regions.mapIdx fun i v => when (scrollDue s.now v) (Instr.scrollDeadline i)).flatten

/-- The commands of every deadline that has passed and has not been acted on. -/
def dueCommands (s : State) : List Instr :=
  dueLine s ++ dueCars s ++ dueChime s ++ dueKiosk s ++ dueBoard s ++ duePower s
    ++ dueSlot s.now .urgent s.notices.urgent ++ dueSlot s.now .info s.notices.info ++ dueScroll s

/-! ## One millisecond -/

/-- A contact sampled at a station time: a reading that differs from the last starts its count (R85). -/
def sampleKey (now : Nat) (r : KeyRecord) : KeyRecord :=
  if r.contact = r.reading then r else { r with reading := r.contact, readingSince := now }

/-- The contact has been seen closed for the debounce time and its key is UP (R85). -/
def pressDue (now : Nat) (r : KeyRecord) : Bool :=
  r.reading && r.state == .up && r.readingSince + Config.debounce ≤ now

/-- The contact has been seen open for the debounce time and its key is DOWN or STUCK (R85). -/
def liftDue (now : Nat) (r : KeyRecord) : Bool :=
  !r.reading && r.state != .up && r.readingSince + Config.debounce ≤ now

/-- The recall key sampled at a station time (R143). -/
def sampleRecall (now : Nat) (r : RecallLatch) : RecallLatch :=
  let p := contactPosition r
  if p = r.reading then r else { r with reading := p, readingSince := now }

/-- A new position has been read for the debounce time (R143). -/
def moveDue (now : Nat) (r : RecallLatch) : Bool :=
  r.reading != r.position && r.readingSince + Config.debounce ≤ now

/-- The timebase one millisecond on, with the contacts sampled where they are (R84, R143). -/
def advance (s : State) : State :=
  let now := s.now + 1
  { s with
    now := now
    keypad :=
      if scannerRuns s then { s.keypad with keys := s.keypad.keys.map (sampleKey now) } else s.keypad
    recallLatch := if keySampled s then sampleRecall now s.recallLatch else s.recallLatch }

/-- The key events of an instant: releases first, then the keys that become DOWN together. -/
def keyEvents (s : State) : List Instr :=
  if scannerRuns s then
    let down := (s.keypad.keys.filter (pressDue s.now)).map KeyRecord.key
    ((s.keypad.keys.filter (liftDue s.now)).map fun r => Instr.keyUp r.key)
      ++ when (!down.isEmpty) (.keyDown down)
  else []

/-- The events of a new instant that are no deadline: the tracking instant (R49), the blink phase (R162),
the keys (R85) and the recall key (R143). -/
def instantCommands (s : State) : List Instr :=
  when (s.now % Config.trackingInterval == 0 && serving s) .trackingInstant
    ++ when (s.now % Config.blinkHalf == 0) .blinkPhaseChange
    ++ keyEvents s
    ++ when (keySampled s && moveDue s.now s.recallLatch) (.recallKeyMove s.recallLatch.reading)

/-- What the station does with no command waiting. -/
def tick (s : State) : State :=
  match dueCommands s with
  | [] =>
    let s' := advance s
    { s' with pending := instantCommands s' }
  | c :: cs => { s with pending := c :: cs }

end Sys2Proof.Machine
end

