-- ==== Sys2Proof/Machine/Dispatch.lean ====
section
/-! DEFINITION. The dispatch of a command to its meaning, one arm for each row of the table. -/

namespace Sys2Proof.Machine

def exec (i : Instr) (s : State) : Host.Outcome State Fault Refusal :=
  match i with
  | .resetAsserted source => Sys2Proof.Machine.execResetAsserted source s
  | .powerOnReset address rate => Sys2Proof.Machine.execPowerOnReset address rate s
  | .pinReset address rate => Sys2Proof.Machine.execPinReset address rate s
  | .loadingEnd memory => Sys2Proof.Machine.execLoadingEnd memory s
  | .selfCheckEnd loop => Sys2Proof.Machine.execSelfCheckEnd loop s
  | .telegramReceived frame => Sys2Proof.Machine.execTelegramReceived frame s
  | .lineIdle => Sys2Proof.Machine.execLineIdle s
  | .attemptWon => Sys2Proof.Machine.execAttemptWon s
  | .attemptLost => Sys2Proof.Machine.execAttemptLost s
  | .attemptFault => Sys2Proof.Machine.execAttemptFault s
  | .mutedDeadline => Sys2Proof.Machine.execMutedDeadline s
  | .car => Sys2Proof.Machine.execCar s
  | .stops => Sys2Proof.Machine.execStops s
  | .assign => Sys2Proof.Machine.execAssign s
  | .showTake => Sys2Proof.Machine.execShowTake s
  | .showRelease => Sys2Proof.Machine.execShowRelease s
  | .text => Sys2Proof.Machine.execText s
  | .textClear => Sys2Proof.Machine.execTextClear s
  | .recallStart => Sys2Proof.Machine.execRecall s
  | .recallEnd => Sys2Proof.Machine.execRecallEnd s
  | .night => Sys2Proof.Machine.execNight s
  | .day => Sys2Proof.Machine.execDay s
  | .wakeSleep => Sys2Proof.Machine.execWakeSleep s
  | .wakeWake => Sys2Proof.Machine.execWakeWake s
  | .queryStatus => Sys2Proof.Machine.execQueryStatus s
  | .queryRestart => Sys2Proof.Machine.execQueryRestart s
  | .trackingInstant => Sys2Proof.Machine.execTrackingInstant s
  | .staleDeadline k => Sys2Proof.Machine.execStaleDeadline k s
  | .lostDeadline k => Sys2Proof.Machine.execLostDeadline k s
  | .chimeToneEnd => Sys2Proof.Machine.execChimeToneEnd s
  | .chimeGapEnd => Sys2Proof.Machine.execChimeGapEnd s
  | .chimeSpacingEnd => Sys2Proof.Machine.execChimeSpacingEnd s
  | .keyDown keys => Sys2Proof.Machine.execKeyDown keys s
  | .keyUp k => Sys2Proof.Machine.execKeyUp k s
  | .keyStuck k => Sys2Proof.Machine.execKeyStuck k s
  | .entryDeadline => Sys2Proof.Machine.execEntryDeadline s
  | .requestTimeout tag => Sys2Proof.Machine.execRequestTimeout tag s
  | .promptDeadline => Sys2Proof.Machine.execPromptDeadline s
  | .localDisplayDeadline k => Sys2Proof.Machine.execLocalDisplayDeadline k s
  | .validityDeadline k => Sys2Proof.Machine.execValidityDeadline k s
  | .holdoffDeadline k => Sys2Proof.Machine.execHoldoffDeadline k s
  | .releaseDeadline k => Sys2Proof.Machine.execReleaseDeadline k s
  | .idleDeadline => Sys2Proof.Machine.execIdleDeadline s
  | .drainDeadline => Sys2Proof.Machine.execDrainDeadline s
  | .recallKeyMove position => Sys2Proof.Machine.execRecallKeyMove position s
  | .assemblyDeadline t => Sys2Proof.Machine.execAssemblyDeadline t s
  | .lifeDeadline t => Sys2Proof.Machine.execLifeDeadline t s
  | .scrollDeadline region => Sys2Proof.Machine.execScrollDeadline region s
  | .alertHoldOffDeadline => Sys2Proof.Machine.execAlertHoldOffDeadline s
  | .lineBusy planned => Sys2Proof.Machine.execLineBusy planned s
  | .blinkPhaseChange => Sys2Proof.Machine.execBlinkPhaseChange s

end Sys2Proof.Machine
end

