-- ==== Sys2Proof/Machine/Outputs.lean ====
section
/-! DEFINITION. What the outside sees of a state: the matrix cell by cell with its brightness, the lantern
outputs, the chime output and the line output (R152, R161, R162, R165 to R168, R182). They are
functions of the state, which keeps no copy of them (9, introduction). -/

namespace Sys2Proof.Machine

/-! ## The matrix -/

/-- A code of the built-in character set (R161). -/
def drawable (c : Nat) : Bool := (32 ≤ c && c ≤ 126) || (1 ≤ c && c ≤ 7)

/-- A cell as it is drawn: a space while it blinks OFF or its code is outside the set (R161, R162). -/
def drawCell (blinkOn : Bool) (c : Cell) : Nat :=
  if c.blinks && !blinkOn then space else if drawable c.code then c.code else space

/-- Spaces before a string that fits its region: a POSITION string is centred (R152). -/
def leadIn (g : Region) (length : Nat) : Nat :=
  match g.kind with
  | .position _ _ => (g.width - length) / 2
  | _ => 0

/-- The code shown in cell `j` of region `i` (R152). -/
def regionCell (s : State) (i : Nat) (v : RegionView) (j : Nat) : Nat :=
  let cs := compose s i v.region
  let k :=
    if cs.length ≤ v.region.width then
      if leadIn v.region cs.length ≤ j then cs[j - leadIn v.region cs.length]? else none
    else cs[v.offset + j]?
  match k with
  | some c => drawCell s.display.blinkOn c
  | none => space

/-- The code shown in a cell of a running station's matrix; none in a cell of no region (R151). -/
def regionsCell (s : State) (line cell : Nat) : Option Nat :=
  (s.display.regions.zipIdx.find? fun v =>
    v.1.region.line == line && v.1.region.first ≤ cell
      && cell < v.1.region.first + v.1.region.width).map
    fun v => regionCell s v.2 v.1 (cell - v.1.region.first)

/-- The code shown in a cell of the matrix: the start pattern before RUNNING, the fault pattern in safe
mode, the regions otherwise (R166). -/
def matrixCell (s : State) (line cell : Nat) : Option Nat :=
  if running s then
    if rejected s then some (wordConfigFault[cell]?.getD dashGlyph) else regionsCell s line cell
  else some dashGlyph

/-- The base level of a power state (R165). -/
def baseLevel (cfg : Settings) : PowerMode → Nat
  | .active => cfg.activeLevel
  | .dim => cfg.dimLevel
  | .draining => cfg.dimLevel
  | .dormant => 0

/-- The brightness level of a line (R165, R166). -/
def lineLevel (s : State) (line : Nat) : Nat :=
  if serving s then
    if s.power.mode = .dormant then 0
    else
      (clampInt 0 15 ((baseLevel s.cfg s.power.mode : Int) + s.cfg.trims[line]?.getD 0)).toNat
  else Config.patternLevel

/-! ## Lantern, chime and line outputs -/

/-- The electrical state of a lantern output. -/
inductive OutputLevel where
  | high | low | released
  deriving DecidableEq, Repr

/-- The drive of a lantern by its mode (the table of R167). -/
def driveOf (mode : DriveMode) (lit : Bool) : OutputLevel :=
  match mode, lit with
  | .pushPull, true => .high
  | .pushPull, false => .low
  | .openDrain, true => .low
  | .openDrain, false => .released

/-- A lantern output: released before RUNNING, in safe mode, and when no surviving entry names it. -/
def lanternOutput (s : State) (output : Nat) : OutputLevel :=
  if serving s then
    match s.lanterns.find? fun l => l.entry.output == output with
    | some l => driveOf l.entry.mode l.lit
    | none => .released
  else .released

/-- The chime output. -/
inductive ChimeLevel where
  | low | square1000Hz
  deriving DecidableEq, Repr

/-- The chime output: the 1,000 Hz wave while a tone sounds, low otherwise (R168). -/
def chimeOutput (s : State) : ChimeLevel :=
  match s.chime.player with
  | .tone _ _ _ => .square1000Hz
  | _ => .low

/-- The 1,000 Hz wave at half duty, in microseconds since the tone began: each period is high for its first
half and low for its second (R168). -/
def chimeWave (micros : Nat) : OutputLevel := if micros % 1000 < 500 then .high else .low

/-- The level of the chime output so many microseconds after the station time, if nothing comes between: the
wave from the instant the stroke's tone began to the one at which it ends, and low otherwise (R168). -/
def chimeLevel (s : State) (micros : Nat) : OutputLevel :=
  match s.chime.player with
  | .tone _ _ ends =>
    let sounded := (s.now + Config.toneTime - ends) * 1000 + micros
    if sounded < Config.toneTime * 1000 then chimeWave sounded else .low
  | _ => .low

/-- The bits of the telegram the station drives on the line while SENDING; none otherwise, and the line
output is then recessive (R182, R187, R195). -/
def lineOutput (s : State) : List Bool :=
  if s.line.tx = .sending then (s.line.attempt.map fun a => telegramBits a.frame).getD [] else []

/-- The levels of the line output, quarter by quarter of T (R197). -/
def lineLevels (s : State) : List LineLevel := (lineOutput s).flatMap bitQuarters

end Sys2Proof.Machine
end

