-- ==== Sys2Proof/Safety.lean ====
section
/-! DEFINITION. What counts as a safe state of the station: the invariants the manual states of its tables,
queues and modes, each closed under every step by itself; what the standing conditions may still change
after a command's own effect; and the answers of a run. -/

namespace Sys2Proof.Safety

open Sys2Proof.Machine

/-! ## What may follow a command's effect at its instant -/

/-- An attempt may begin (R4): the line is idle, the transmitter READY, and the power state not DORMANT. -/
def offerOpen (s : State) : Prop :=
  s.line.tx = .ready ∧ s.line.watch = .idle ∧ s.power.mode ≠ .dormant

/-- `q` is the eligible record `p` with its holdoff started, of a length R115 allows (R114). -/
def holdoffStarted (s : State) (p q : PromptRecord) : Prop :=
  holdoffsAllowed s = true ∧ p.board = .pending ∧ p.holdoff = none ∧ p.takeQueued = false
    ∧ ∃ l : BitVec 16, q = { p with holdoff := some (s.now + holdoffLength s.cfg p.key.kiosk l) }

/-- What may become of a record: nothing, its holdoff starts (R114), or, where an attempt may begin, its
mark is cleared as its TAKE is dropped at the offer (R11, R117), and then its holdoff may start. -/
def recordFollows (s : State) (p q : PromptRecord) : Prop :=
  q = p ∨ holdoffStarted s p q
    ∨ (offerOpen s ∧ (q = { p with takeQueued := false } ∨ holdoffStarted s { p with takeQueued := false } q))

/-- The records follow one by one, in their order. -/
def recordsFollow (s : State) : List PromptRecord → List PromptRecord → Prop
  | [], [] => True
  | p :: ps, q :: qs => recordFollows s p q ∧ recordsFollow s ps qs
  | _, _ => False

/-- How many records have a holdoff running. -/
def holdoffCount (ps : List PromptRecord) : Nat := (ps.filter fun p => p.holdoff.isSome).length

/-- The check at transmission begin for a SHOW FIFO item (the table of R11). The record or entry of a withdrawn item
has left, and one made anew of its key is not its own (assumption 29). -/
def passesCheck (s : State) (i : ShowItem) : Prop :=
  i.withdrawn = false
    ∧ match i.act with
      | .release => ∃ r ∈ s.releases, r.key = i.key
      | .firstTake =>
        s.power.mode ≠ .draining
          ∧ ∃ p ∈ s.prompts, p.key = i.key ∧ p.board = .pending ∧ p.takeQueued = true
      | .reassert => s.power.mode ≠ .draining ∧ ∃ p ∈ s.prompts, p.key = i.key ∧ p.board = .owned

/-- The state as an item dropped at the offer leaves it: the mark of a TAKE's record is cleared (R11, R117). A
withdrawn item leaves the mark of a record made anew of its key (assumption 29). -/
def markCleared (s : State) (i : ShowItem) : State :=
  if i.act = .release ∨ i.withdrawn = true then s
  else
    { s with
      prompts := s.prompts.map fun p => if p.key = i.key then { p with takeQueued := false } else p }

/-- The FIFO as the record or entry of some of its items leaves: an item that waits is removed, and one on the line
stays until its outcome, which finds none (R9, R112, R126, R128, R129). -/
def withdrawnFrom (q : List ShowItem) (its : ShowItem → Bool) : List ShowItem :=
  (q.filter fun i => !its i || i.onLine).map fun i => if its i then { i with withdrawn := true } else i

/-- The items fail the check one by one, each in the state that the drops before it leave (R11, R117). -/
def droppedInTurn (s : State) : List ShowItem → Prop
  | [] => True
  | i :: rest => ¬passesCheck s i ∧ droppedInTurn (markCleared s i) rest

/-- The state that items dropped in turn leave. -/
def afterDrops (s : State) (dropped : List ShowItem) : State := dropped.foldl markCleared s

/-- An item of the list passes the check when its turn comes, those before it dropped (R11, R117). -/
def showOffered (s : State) : List ShowItem → Prop
  | [] => False
  | i :: rest => passesCheck s i ∨ showOffered (markCleared s i) rest

/-- A class of the selector has nothing to offer (R10, R11). -/
def nothingIn (s : State) : TxClass → Prop
  | .req => ∀ r ∈ s.requests.entries, r.sent = true
  | .shows => ¬showOffered s s.showFifo
  | .stat => s.status.slot = none

/-- The classes asked before a class, from the pointer on in the cycle REQ, SHOW, STAT (R10). -/
def askedBefore (pointer c : TxClass) : List TxClass :=
  match pointer, c with
  | .req, .req => []
  | .req, .shows => [.req]
  | .req, .stat => [.req, .shows]
  | .shows, .shows => []
  | .shows, .stat => [.shows]
  | .shows, .req => [.shows, .stat]
  | .stat, .stat => []
  | .stat, .req => [.stat]
  | .stat, .shows => [.stat, .req]

/-- The offer comes to a class: those asked before it have nothing (R10). -/
def comesTo (s : State) (c : TxClass) : Prop := ∀ d ∈ askedBefore s.pointer c, nothingIn s d

/-- What an offer sees of the records, besides which are there: key, board state and mark. -/
def claimsOf (ps : List PromptRecord) : List (AssignKey × BoardState × Bool) :=
  ps.map fun p => (p.key, p.board, p.takeQueued)

/-- The telegram of an attempt that begins is the one its class has to offer, with its content (R10, R11): the
REQ of the oldest Queued entry, the SHOW of the first item that passes the check when its turn comes, or the
STAT of the slot. For another class the FIFO is dropped whole if SHOW was asked before, and else is whole. -/
def isOffer (s : State) (dropped kept : List ShowItem) (a : Attempt) : Prop :=
  match a.item with
  | .req tag =>
    (if s.pointer = .shows then kept = [] else dropped = [])
      ∧ ∃ r, s.requests.entries.find? (fun q => !q.sent) = some r ∧ r.tag = tag ∧ a.frame = reqFrame s r
  | .shows act k =>
    ∃ i rest, kept = i :: rest ∧ passesCheck (afterDrops s dropped) i ∧ i.act = act ∧ i.key = k
      ∧ a.frame = showFrame s i
  | .stat =>
    (if s.pointer = .stat then dropped = [] else kept = [])
      ∧ s.status.slot.isSome = true ∧ a.frame = statFrame s

/-- An attempt begins: the offer comes to its class, no class asked before having anything (R10). Besides the
records, the beginning writes the line, the FIFO's head, and for a STAT the captured and recurred marks
(R4, R11, R191). -/
def attemptBegun (s t : State) (dropped kept : List ShowItem) : Prop :=
  ∃ a, t.line =
      { s.line with watch := .busy, receiving := false, tx := .sending, attempt := some a }
    ∧ comesTo s (classOfItem a.item) ∧ isOffer s dropped kept a
    ∧ (match a.item with
      | .req _ => t.showFifo = kept ∧ t.status = s.status
      | .shows _ _ => t.showFifo = headOnLine kept ∧ t.status = s.status
      | .stat =>
        t.showFifo = kept
          ∧ t.status = { s.status with captured := s.status.flags, recurred := 0 })

/-- What may become of the line, the FIFO, status and the records' marks. Nothing, unless an attempt may begin.
Then items at the head of the FIFO that fail their check one after the other are dropped, their marks
cleared (R11, R117), and the attempt of the first class from the pointer on that has something to offer
begins, or no class has (R4, R10). -/
def offerFollows (s t : State) : Prop :=
  (¬offerOpen s ∧ t.line = s.line ∧ t.showFifo = s.showFifo ∧ t.status = s.status
      ∧ claimsOf t.prompts = claimsOf s.prompts)
    ∨ (offerOpen s ∧ ∃ dropped kept, s.showFifo = dropped ++ kept ∧ droppedInTurn s dropped
      ∧ claimsOf t.prompts = claimsOf (afterDrops s dropped).prompts
      ∧ (attemptBegun s t dropped kept
        ∨ ((∀ c, nothingIn s c) ∧ kept = [] ∧ t.showFifo = [] ∧ t.line = s.line ∧ t.status = s.status)))

/-- Every region shows its present string. One whose string has changed shows it from its first cell, and
begins a pass of 1,000 ms of pause, or has none while DORMANT; any other is as it was (R152, R164, R166). -/
def viewsFollow (s t : State) : Prop :=
  t.display =
    { s.display with
      regions := s.display.regions.mapIdx fun i v =>
        if v.text = codesOf (compose t i v.region) then v
        else
          { v with
            text := codesOf (compose t i v.region)
            offset := 0
            stepping := false
            deadline := if t.power.mode = .dormant then none else some (t.now + 1000) } }

/-- No holdoff that could start is left (R114). -/
def holdoffsDone (t : State) : Prop :=
  holdoffsAllowed t = true →
    t.cfg.rowCount ≤ reservedRows t ∨ ∀ p ∈ t.prompts, holdoffEligible p = false

/-- `t` is `s` but for what begins by itself at the same instant: holdoffs, one attempt with the items
dropped at its offer, and the regions' strings and passes. All that can begin has begun, and everything
else the station holds is equal. -/
def onlyStanding (s t : State) : Prop :=
  t =
      { s with
        line := t.line
        showFifo := t.showFifo
        status := t.status
        prompts := t.prompts
        claim := t.claim
        display := t.display }
    ∧ recordsFollow s s.prompts t.prompts
    ∧ (∃ n, t.claim = { s.claim with lfsr := Nat.repeat lfsrStep n s.claim.lfsr }
        ∧ holdoffCount t.prompts = holdoffCount s.prompts + n)
    ∧ offerFollows s t ∧ viewsFollow s t ∧ holdoffsDone t

/-- `t` follows from the effect `s` of a command at the same instant: the drain ends if its terms hold
(R175), and then only what begins by itself is added. -/
def settles (s t : State) : Prop := onlyStanding (drainTest s) t

/-- A telegram of 12.1 with the CRC of R195 over its arbitration field, kind, length and payload (R1). -/
def telegramOf (priority kind source : Nat) (payload : List Byte) : Frame :=
  let address : BitVec 7 := BitVec.ofNat 7 source
  { priority := BitVec.ofNat 3 priority
    source := address
    kind := BitVec.ofNat 4 kind
    length := BitVec.ofNat 5 payload.length
    payload := payload
    crc :=
      crc16
        (bitsOf 3 priority ++ bitsOf 7 address.toNat ++ bitsOf 4 kind ++ bitsOf 5 payload.length
          ++ payload.flatMap fun x => bitsOf 8 x.toNat) }

/-- The content of a STAT, captured from the blocks (R190, 12.1). The code of muted is the model's choice
(assumption 38). -/
def statContent (s : State) : List Byte :=
  [BitVec.ofNat 8 s.start.address,
    (match s.start.cause with | .powerOn => 0 | .pin => 1 | .line => 2),
    (match s.start.config with
      | some .partially => 1
      | some .rejected => 2
      | _ => 0),
    (match s.power.mode with | .active => 0 | .dim => 1 | .draining => 2 | .dormant => 3),
    (if s.recallLatch.latched = true then 1 else 0),
    (match s.recallLatch.position with | .off => 0 | .on => 1 | .bypass => 2),
    (if s.line.tx = .muted ∨ s.line.tx = .held then 1 else 0),
    BitVec.ofNat 8 (s.cars.filter fun c => c.freshness == .live).length,
    BitVec.ofNat 8 (s.prompts.filter fun p => p.board == .owned).length,
    BitVec.ofNat 8 s.requests.entries.length,
    BitVec.ofNat 8 (s.status.flags.toNat / 256), BitVec.ofNat 8 s.status.flags.toNat]

/-- The station runs, is not in safe mode, and its receive queue has this head and rest. -/
def headIs (s : State) (e : RxEntry) (rest : List RxEntry) : Prop :=
  running s = true ∧ rejected s = false ∧ s.rx.entries = e :: rest

/-- The station with the head of its queue gone: what a take leaves before the owner acts (R14, R17). -/
def headTaken (s : State) (rest : List RxEntry) : State := { s with rx := takenQueue rest s.rx }

/-- No drain ends at this instant (R175). -/
def drainHolds (s : State) : Prop :=
  ¬(s.power.mode = .draining ∧ s.releases = [] ∧ s.line.tx ≠ .sending)

/-- The idle deadline as a restart leaves it (R173). -/
def idleAnew (s : State) : Option Nat :=
  if s.cfg.dormantDelay = 0 then s.power.idleDeadline
  else some (s.now + s.cfg.dormantDelay * 60000)

/-- The power controller as an activity leaves it (R173). -/
def stirred (s : State) : PowerController := { s.power with idleDeadline := idleAnew s }

/-- The power controller as a wake to a power state leaves it (R178). -/
def wakened (mode : PowerMode) (s : State) : PowerController :=
  { s.power with mode := mode, idleDeadline := idleAnew s, drainDeadline := none }

/-- The regions as a wake leaves them: out of DORMANT each begins a pass (R166). -/
def wakenedDisplay (s : State) : Display :=
  if s.power.mode = .dormant then
    { s.display with
      regions := s.display.regions.map fun v =>
        { v with offset := 0, stepping := false, deadline := some (s.now + 1000) } }
  else s.display

/-- The station as a wake to a power state leaves it (R178): the entry is IDLE with no prompt (R103). -/
def awakened (mode : PowerMode) (s : State) : State :=
  { s with power := wakened mode s, display := wakenedDisplay s, entry := EntryController.idle }

/-- The idle deadline drained the station at this instant, and its drain goes on: an activity other than a key
leaves it DRAINING (R180, first line). -/
abbrev drainsIdle (s : State) : Prop := s.power.mode = .draining ∧ s.power.idleDrainAt = some s.now

/-- The key goes DOWN alone in an OPEN scan with no other key DOWN: it is taken (R86). -/
def takesKey (s : State) (k : Key) : Prop :=
  serving s = true ∧ goingDown [k] s = [k] ∧ s.keypad.locked = false
    ∧ ∀ r ∈ s.keypad.keys, r.state ≠ .down

/-- The entry controller acts on a taken key (R88). -/
def entryListens (s : State) : Prop :=
  kioskJob s.cfg = true ∧ s.power.mode ≠ .dormant ∧ s.recallLatch.latched = false

/-- The station with a taken key DOWN and the power controller told, before the entry controller acts
(R88): an activity, or in DRAINING a wake, from which the entry starts IDLE with no prompt (R103). -/
def keyTaken (s : State) (k : Key) : State :=
  { pressKeys [k] s with
    power := if s.power.mode = .draining then wakened .dim s else stirred s
    entry := if s.power.mode = .draining then EntryController.idle else s.entry }

/-- The terms of R125 for a record that names this car and deck. -/
def boardsNow (s : State) (car : CarKey) (deck : Option Deck) : Prop :=
  ∃ c r, findCar s.cars car = some c ∧ c.report = some r ∧ c.freshness = .live
    ∧ s.cfg.homeFloor.isSome = true ∧ deckFloor s.cfg c (deck.getD .lower) = s.cfg.homeFloor
    ∧ (r.motion = .parked ∨ r.motion = .levelling) ∧ (r.door = .opening ∨ r.door = .opened)

/-- The car runs, by a LIVE record (R126). -/
def runsNow (s : State) (car : CarKey) : Prop :=
  ∃ c r, findCar s.cars car = some c ∧ c.report = some r ∧ c.freshness = .live
    ∧ (r.motion = .runUp ∨ r.motion = .runDown)

/-- What every reset leaves (the table of R183), with no map, regions or lantern entries, and the key position
taken as OFF (R143). The marks of `StatusBlock.afterReset` are the model's choice (assumption 37). -/
def afterReset (t : State) : Prop :=
  t.rx = { entries := [], congested := false } ∧ t.showFifo = [] ∧ t.status = StatusBlock.afterReset
    ∧ t.requests.entries = [] ∧ t.prompts = [] ∧ t.releases = [] ∧ t.chime = silentChime
    ∧ t.notices.urgent = { shown := none, assembly := none }
    ∧ t.notices.info = { shown := none, assembly := none } ∧ t.cars = []
    ∧ t.line.tx = .off ∧ t.line.faults = 0 ∧ t.line.mutedUntil = none ∧ t.line.attempt = none
    ∧ t.pointer = .req ∧ t.power = PowerController.afterReset ∧ t.recallLatch.latched = false
    ∧ t.recallLatch.position = .off
    ∧ t.start.config = none ∧ t.cfg.floors = [] ∧ t.cfg.regions = [] ∧ t.cfg.lanterns = []
    ∧ t.lanterns = [] ∧ t.display.regions = [] ∧ t.entry = EntryController.idle

/-- The start-up loader once an end of reset has sampled the straps (R182, R184): 127 is no address, and the
station stays in reset while the other input holds. -/
def strapsSampled (t : State) (x : Startup) : Prop :=
  t.start =
    { x with
      address := if x.addressPins.toNat = 127 then 0 else x.addressPins.toNat
      addressRefused := x.addressPins.toNat == 127
      rateCode := x.ratePins
      stage := if x.resetPinAsserted = true ∨ x.supplyLow = true then .heldInReset else .loading
      config := none }

/-- RUNNING begins in a station whose status is OK or PARTIAL (R188): the receiver joins, the pinned records
await, the lanterns are DARK, every key is UP with its contact not yet seen closed (R84), the entry is IDLE, the
latch is read from the key with the effects of R148 where it is SET, the idle deadline is set, and each region
begins a pass. -/
def takenUp (tx : TxState) (s : State) : State :=
  let set : Bool := s.recallLatch.position == .on
  { s with
    start := { s.start with stage := .running }
    line := { s.line with watch := .joining, receiving := false, tx := tx, testStat := none }
    cars :=
      s.cfg.pinned.map fun k =>
        { key := k
          pinned := true
          report := none
          freshness := .awaiting
          staleAt := none
          lostAt := none
          stops := []
          estimate := none
          floor := none
          shown := [] }
    lanterns := s.cfg.lanterns.map fun e => { entry := e, lit := false, doorSeen := false }
    chime := { queue := [], player := .idle }
    keypad :=
      { keys :=
          s.keypad.keys.map fun r =>
            { r with reading := false, readingSince := s.now, state := .up, stateSince := s.now }
        locked := false }
    entry := EntryController.idle
    recallLatch := { s.recallLatch with latched := set }
    display :=
      { s.display with
        regions :=
          s.cfg.regions.map fun g =>
            { region := g, text := [], offset := 0, deadline := some (s.now + 1000), stepping := false } }
    power := { s.power with idleDeadline := idleAnew s }
    requests := if set then { s.requests with entries := [] } else s.requests
    prompts := if set then [] else s.prompts
    releases := if set then [] else s.releases
    showFifo := if set then [] else s.showFifo }

/-! ## The timebase -/

/-- A deadline that is present has been reached by the station time (Conventions, Time). -/
abbrev reached (s : State) (deadline : Option Nat) : Prop := ∃ d, deadline = some d ∧ d ≤ s.now

/-- The command of a deadline that has passed and not been acted on: one for each deadline the manual gives a
block, in the state in which its passing has an effect. -/
def deadlinePassed (s : State) : Instr → Prop
  | .mutedDeadline => s.line.tx = .muted ∧ reached s s.line.mutedUntil
  | .alertHoldOffDeadline => reached s s.status.holdOff
  | .staleDeadline k => ∃ c ∈ s.cars, c.key = k ∧ c.freshness = .live ∧ reached s c.staleAt
  | .lostDeadline k =>
    ∃ c ∈ s.cars, c.key = k ∧ (c.freshness = .live ∨ c.freshness = .stale) ∧ reached s c.lostAt
  | .chimeToneEnd => ∃ e left ends, s.chime.player = .tone e left ends ∧ ends ≤ s.now
  | .chimeGapEnd => ∃ e left ends, s.chime.player = .gap e left ends ∧ ends ≤ s.now
  | .chimeSpacingEnd => ∃ ends, s.chime.player = .spacing ends ∧ ends ≤ s.now
  | .keyStuck k =>
    serving s = true ∧ ∃ r ∈ s.keypad.keys, r.key = k ∧ r.state = .down ∧ r.stateSince + 10000 ≤ s.now
  | .entryDeadline => s.entry.entering = true ∧ reached s s.entry.deadline
  | .promptDeadline => reached s (s.entry.prompt.map KioskPrompt.ends)
  | .requestTimeout tag =>
    ∃ r ∈ s.requests.entries, r.tag = tag ∧ r.created + s.cfg.requestTimeout ≤ s.now
  | .localDisplayDeadline k => ∃ p ∈ s.prompts, p.key = k ∧ reached s p.localUntil
  | .validityDeadline k => ∃ p ∈ s.prompts, p.key = k ∧ p.validUntil ≤ s.now
  | .holdoffDeadline k => ∃ p ∈ s.prompts, p.key = k ∧ reached s p.holdoff
  | .releaseDeadline k => ∃ r ∈ s.releases, r.key = k ∧ r.deadline ≤ s.now
  | .idleDeadline => s.power.mode = .dim ∧ reached s s.power.idleDeadline
  | .drainDeadline => s.power.mode = .draining ∧ reached s s.power.drainDeadline
  | .assemblyDeadline slot => reached s ((getSlot slot s.notices).assembly.map Assembly.deadline)
  | .lifeDeadline slot => reached s ((getSlot slot s.notices).shown.map ShownText.life)
  | .scrollDeadline i =>
    s.power.mode ≠ .dormant
      ∧ ∃ v, s.display.regions[i]? = some v ∧ v.region.width < v.text.length ∧ reached s v.deadline
  | .resetAsserted _ | .powerOnReset _ _ | .pinReset _ _ | .loadingEnd _ | .selfCheckEnd _
  | .telegramReceived _ | .lineIdle | .attemptWon | .attemptLost | .attemptFault | .car | .stops | .assign
  | .showTake | .showRelease | .text | .textClear | .recallStart | .recallEnd | .night | .day | .wakeSleep
  | .wakeWake | .queryStatus | .queryRestart | .trackingInstant | .keyDown _ | .keyUp _ | .recallKeyMove _
  | .lineBusy _ | .blinkPhaseChange => False

/-- The recall key is sampled: from the start of LOADING on, and not where it is marked as not fitted (R143). -/
abbrev recallSampled (s : State) : Prop := s.start.stage ≠ .heldInReset ∧ s.cfg.keyFitted = true

/-- The command of an event of the station time itself: the tracking instant (R49), the change of the blink phase
(R162), and the contacts read alike for 20 ms that differ from the state taken (R85, R143). -/
def clockEvent (s : State) : Instr → Prop
  | .trackingInstant => s.now % 10 = 0 ∧ serving s = true
  | .blinkPhaseChange => s.now % 500 = 0
  | .keyUp k =>
    serving s = true
      ∧ ∃ r ∈ s.keypad.keys, r.key = k ∧ r.reading = false ∧ r.state ≠ .up ∧ r.readingSince + 20 ≤ s.now
  | .keyDown keys =>
    serving s = true ∧ keys ≠ []
      ∧ keys =
          (s.keypad.keys.filter fun r =>
            r.reading && r.state == .up && decide (r.readingSince + 20 ≤ s.now)).map KeyRecord.key
  | .recallKeyMove position =>
    recallSampled s ∧ position = s.recallLatch.reading ∧ position ≠ s.recallLatch.position
      ∧ s.recallLatch.readingSince + 20 ≤ s.now
  | .resetAsserted _ | .powerOnReset _ _ | .pinReset _ _ | .loadingEnd _ | .selfCheckEnd _
  | .telegramReceived _ | .lineIdle | .attemptWon | .attemptLost | .attemptFault | .car | .stops | .assign
  | .showTake | .showRelease | .text | .textClear | .recallStart | .recallEnd | .night | .day | .wakeSleep
  | .wakeWake | .queryStatus | .queryRestart | .mutedDeadline | .alertHoldOffDeadline | .staleDeadline _
  | .lostDeadline _ | .chimeToneEnd | .chimeGapEnd | .chimeSpacingEnd | .keyStuck _ | .entryDeadline
  | .promptDeadline | .requestTimeout _ | .localDisplayDeadline _ | .validityDeadline _ | .holdoffDeadline _
  | .releaseDeadline _ | .idleDeadline | .drainDeadline | .assemblyDeadline _ | .lifeDeadline _
  | .scrollDeadline _ | .lineBusy _ => False

/-! ## The receive queue (R15, R17) -/

/-- The car of a CAR entry. -/
def reportCar (e : RxEntry) : Option CarKey :=
  if e.kind = .car then some (carKeyOf (byteAt e.payload 0)) else none

/-- At most 24 entries, at most one CAR report for any one car, and the congested state between its two
limits. -/
def queueSafe (s : State) : Prop :=
  s.rx.entries.length ≤ 24 ∧ (s.rx.entries.filterMap reportCar).Nodup
    ∧ (s.rx.congested = true → 9 ≤ s.rx.entries.length)
    ∧ (s.rx.congested = false → s.rx.entries.length ≤ 17)

/-! ## The line interface (1.2, R4) -/

/-- SENDING and MUTED go with their attempt and deadline, the fault count lies in 0..16, and the
transmitter is OFF before RUNNING and at address 0. -/
def lineSafe (s : State) : Prop :=
  (s.line.tx = .sending ↔ s.line.attempt.isSome = true)
    ∧ (s.line.tx = .muted ↔ s.line.mutedUntil.isSome = true)
    ∧ (s.line.faults < 16 ∨ (s.line.faults = 16 ∧ s.line.tx = .muted))
    ∧ (s.start.stage ≠ .running → s.line.tx = .off)
    ∧ (s.start.address = 0 → s.line.tx = .off)
    ∧ (s.start.stage = .selfCheck → s.start.address ≠ 0)

/-! ## The car table (R31, R44, R61, R64) -/

/-- The map is one the structural checks let through (R20). -/
def mapSafe (cfg : Settings) : Prop :=
  2 ≤ cfg.floors.length ∧ cfg.switchPoints.length + 1 = cfg.floors.length
    ∧ cfg.floors.any Floor.displayable = true

/-- Ascending and distinct indices. -/
def ascending : List Nat → Prop
  | a :: b :: l => a < b ∧ ascending (b :: l)
  | _ => True

/-- One record: its floors are floors of the map, its displayed floors displayable, its stop list
normalised, and its tracker fields absent exactly when the manual makes them so. -/
def recordSafe (cfg : Settings) (c : CarRecord) : Prop :=
  (∀ f, c.floor = some f → f < cfg.floors.length)
    ∧ (∀ d, some d ∈ c.shown → isDisplayable cfg d = true)
    ∧ c.stops.length ≤ 16 ∧ ascending c.stops ∧ (∀ f ∈ c.stops, f < cfg.floors.length)
    ∧ (∀ r, c.report = some r → (r.deckCount = 1 ∨ r.deckCount = 2) ∧ -12000 ≤ r.speed
        ∧ r.speed ≤ 12000 ∧ r.height ≤ 1048575 ∧ ∀ f, r.nextStop = some f → f < cfg.floors.length)
    ∧ (c.freshness = .awaiting ∨ c.freshness = .lost →
        c.floor = none ∧ c.estimate = none ∧ c.shown = [] ∧ c.stops = [])
    ∧ (c.freshness = .live ∨ c.freshness = .stale →
        c.floor.isSome = true ∧ c.estimate.isSome = true ∧ c.report.isSome = true)

/-- At most 32 records, no two of one car, each safe; none before RUNNING. -/
def carsSafe (s : State) : Prop :=
  s.cars.length ≤ 32 ∧ (s.cars.map CarRecord.key).Nodup ∧ (∀ c ∈ s.cars, recordSafe s.cfg c)
    ∧ (s.start.stage ≠ .running → s.cars = [])
    ∧ s.cfg.pinned.length ≤ 16 ∧ s.cfg.pinned.Nodup
    ∧ (s.start.stage = .selfCheck ∨ s.start.stage = .running →
        s.start.config ≠ some .rejected → mapSafe s.cfg)

/-! ## The chime queue (R79) -/

/-- At most 4 waiting entries, no two of one lantern, and none of the lantern playing; strokes 1 or 2. -/
def chimeSafe (s : State) : Prop :=
  s.chime.queue.length ≤ 4 ∧ (s.chime.queue.map ChimeEntry.output).Nodup
    ∧ (∀ o, playing s.chime.player = some o → o ∉ s.chime.queue.map ChimeEntry.output)
    ∧ ∀ e ∈ s.chime.queue, e.strokes = 1 ∨ e.strokes = 2

/-! ## The entry and the request file (R89, R90, R95) -/

/-- In IDLE the buffer is empty, the class STANDARD and the deadline absent; the buffer holds at most
three characters. -/
def entrySafe (s : State) : Prop :=
  s.entry.buffer.length ≤ 3
    ∧ (s.entry.entering = true → s.entry.deadline.isSome = true)
    ∧ (s.entry.entering = false →
        s.entry.buffer = [] ∧ s.entry.cls = .standard ∧ s.entry.deadline = none)

/-- The destination and class of a Queued entry. -/
def queuedPair (r : Request) : Option (Nat × ReqClass) := if r.sent then none else some (r.dest, r.cls)

/-- At most 4 entries in the order of their creation stamps, counts 1..15, tags 1..65535, and no two Queued
entries of one destination and class. -/
def requestsSafe (s : State) : Prop :=
  s.requests.entries.length ≤ 4 ∧ (s.requests.entries.filterMap queuedPair).Nodup
    ∧ (∀ r ∈ s.requests.entries, 1 ≤ r.count ∧ r.count ≤ 15 ∧ 1 ≤ r.tag ∧ r.tag ≤ 65535)
    ∧ 1 ≤ s.requests.tagCounter ∧ s.requests.tagCounter ≤ 65535
    ∧ s.requests.entries.Pairwise (fun a b => a.created ≤ b.created)
    ∧ ∀ r ∈ s.requests.entries, r.created ≤ s.now

/-- The tags of the request file. -/
def heldTags (s : State) : List Nat := s.requests.entries.map Request.tag

/-- The next tag is not one still held: 65,535 new entries have not been made while one lived (R95). -/
def tagFree (s : State) : Prop := s.requests.tagCounter ∉ heldTags s

/-! ## The prompt table (R107, R116) -/

/-- One record: it has a local part or a board state, a claim time exactly while Owned and a claimant
exactly while Watched. -/
def promptSafe (p : PromptRecord) : Prop :=
  (p.localUntil.isSome = true ∨ p.board ≠ .none) ∧ (p.board = .owned ↔ p.claimTime.isSome = true)
    ∧ (p.board = .watched ↔ p.claimant.isSome = true)

/-- At most 24 records, no two of one key, each safe. -/
def promptsSafe (s : State) : Prop :=
  s.prompts.length ≤ 24 ∧ (s.prompts.map PromptRecord.key).Nodup ∧ ∀ p ∈ s.prompts, promptSafe p

/-- The reserved rows (R113): the Owned records, the entries of the release buffer, and the other records with a
holdoff running or their take-queued mark set. -/
def rowsTaken (s : State) : Nat :=
  (s.prompts.filter fun p => p.board == .owned).length + s.releases.length
    + (s.prompts.filter fun p => p.board != .owned && (p.holdoff.isSome || p.takeQueued)).length

/-- The key of a TAKE whose record has not left, and `none` for any other item. -/
def queuedTake (i : ShowItem) : Option AssignKey := if isTakeOf i.key i then some i.key else none

/-- The reserved rows are at most the row count (R113). So that it stays so: a TAKE stands for one record, which
carries its mark (R117); a record runs a holdoff only while Pending with its mark clear, and one with no board
state has neither; an Owned record is marked only by its one reassert (R121); an item is on the line only as the
attempt (R9); and nothing is held before RUNNING (R107, R128). -/
def rowsSafe (s : State) : Prop :=
  rowsTaken s ≤ s.cfg.rowCount ∧ (s.showFifo.filterMap queuedTake).Nodup
    ∧ (∀ k ∈ s.showFifo.filterMap queuedTake, ∃ p ∈ s.prompts, p.key = k ∧ p.takeQueued = true)
    ∧ (∀ p ∈ s.prompts, p.holdoff.isSome = true → p.board = .pending ∧ p.takeQueued = false)
    ∧ (∀ p ∈ s.prompts, p.takeQueued = true → p.board ≠ .none)
    ∧ (∀ p ∈ s.prompts, p.board = .owned → p.takeQueued = true → p.reassertDone = true)
    ∧ (∀ i ∈ s.showFifo, i.onLine = true →
        s.line.attempt.map Attempt.item = some (.shows i.act i.key))
    ∧ (s.start.stage ≠ .running → s.prompts = [] ∧ s.releases = [] ∧ s.showFifo = [])

/-- The LFSR value is 1..65535 (R116). -/
def lfsrSafe (s : State) : Prop := s.claim.lfsr ≠ 0

/-! ## The notice store (R135) -/

/-- A slot: an assembly has 1..4 parts of at most 16 characters, one present and one absent at least,
and a shown text has at most 64 characters. -/
def slotSafe (x : TextSlot) : Prop :=
  (∀ a, x.assembly = some a →
      a.parts.length ≤ 4 ∧ (∃ t, some t ∈ a.parts) ∧ none ∈ a.parts
        ∧ ∀ t, some t ∈ a.parts → t.length ≤ 16)
    ∧ ∀ v, x.shown = some v → v.text.length ≤ 64

/-- Both slots are safe. -/
def noticesSafe (s : State) : Prop := slotSafe s.notices.urgent ∧ slotSafe s.notices.info

/-! ## The recall latch and the power states (R143, R146, R148, R170, R176, R179) -/

/-- While the latch is SET: ACTIVE, and the request file, the prompt table, the release buffer and the
SHOW FIFO are empty, with the entry IDLE and no prompt (R148). -/
def latchSafe (s : State) : Prop :=
  s.recallLatch.latched = true →
    s.power.mode = .active ∧ s.requests.entries = [] ∧ s.prompts = [] ∧ s.releases = []
      ∧ s.showFifo = [] ∧ s.entry = EntryController.idle

/-- While DORMANT: no LIVE record, the prompt table, the request file, the release buffer, the SHOW FIFO
and the chime queue are empty, the player is IDLE, every lantern is DARK, and the entry IDLE with no
prompt (R176). -/
def dormantSafe (s : State) : Prop :=
  s.power.mode = .dormant →
    (∀ c ∈ s.cars, c.freshness ≠ .live) ∧ s.prompts = [] ∧ s.requests.entries = [] ∧ s.releases = []
      ∧ s.showFifo = [] ∧ s.chime = silentChime ∧ (∀ l ∈ s.lanterns, l.lit = false)
      ∧ s.entry = EntryController.idle

/-- The night flag is set exactly outside ACTIVE while the latch is CLEAR, a SET latch holds ACTIVE, the
drain deadline is present exactly in DRAINING, nothing moves before RUNNING or in safe mode, and a taken
key position decides the latch. -/
def powerSafe (s : State) : Prop :=
  (s.recallLatch.latched = false → (s.power.night = true ↔ s.power.mode ≠ .active))
    ∧ (s.recallLatch.latched = true → s.power.mode = .active)
    ∧ (s.power.mode = .draining ↔ s.power.drainDeadline.isSome = true)
    ∧ (s.start.stage ≠ .running ∨ s.start.config = some .rejected →
        s.power.mode = .active ∧ s.power.night = false ∧ s.recallLatch.latched = false)
    ∧ (serving s = true →
        (s.recallLatch.position = .on → s.recallLatch.latched = true)
          ∧ (s.recallLatch.position = .bypass → s.recallLatch.latched = false))

/-! ## All of them, and a run -/

/-- Every invariant of this file. -/
def safe (s : State) : Prop :=
  queueSafe s ∧ lineSafe s ∧ carsSafe s ∧ chimeSafe s ∧ entrySafe s ∧ requestsSafe s ∧ promptsSafe s
    ∧ rowsSafe s ∧ lfsrSafe s ∧ noticesSafe s ∧ latchSafe s ∧ dormantSafe s ∧ powerSafe s

/-- A property that a step keeps from every state that has it. -/
def keptByStep (inv : State → Prop) : Prop := ∀ s t, inv s → step s = .next t → inv t

end Sys2Proof.Safety
end

