-- ==== Sys2Proof/Certificates/Slice0/Obligations.lean ====
section
/-! DEFINITION. The statements for the provers. A statement of a command's effect says that `exec` answers a
next state; `settles e t` then says that `t` is the effect `e`, written out from the rules, followed by
nothing but what begins by itself at the same instant: it is the frame of the statement. -/

open Sys2Proof Sys2Proof.Machine Sys2Proof.Safety

/-! ## Steps -/

/-- A step runs the command at the front of the queue on the state with the queue's rest. -/
def Obligations.StepRunsTheFrontCommand : Prop :=
  ∀ (c : Instr) (rest : List Instr) (s : State),
    step { s with pending := c :: rest } = exec c { s with pending := rest }

/-- On an empty queue the station queues the commands of exactly the deadlines that have passed, each spelled out
by `deadlinePassed` (Conventions, Time). When none has, the timebase goes on by 1 ms and only the samplers move:
a contact, and the key position its contacts give, that differs from the last reading starts its count anew
(R84, R85, R143); and queued are exactly the commands of `clockEvent`: the tracking instant (R49), the blink phase
(R162), and a key or a position read alike for 20 ms. THE MODEL'S CHOICE (assumption 5): that an empty queue is the
timebase, that deadlines come before the next millisecond, and how commands are queued. -/
def Obligations.StepOnEmptyQueueTicks : Prop :=
  ∀ s : State, s.pending = [] →
    ∃ t, step s = .next t
      ∧ ((∃ c, deadlinePassed s c) →
          t = { s with pending := t.pending } ∧ ∀ c, c ∈ t.pending ↔ deadlinePassed s c)
      ∧ ((∀ c, ¬deadlinePassed s c) →
          let now := s.now + 1
          let sampled (r : KeyRecord) : KeyRecord :=
            if r.contact = r.reading then r else { r with reading := r.contact, readingSince := now }
          let l := s.recallLatch
          let position : KeyPosition :=
            if l.onContact then .on else if l.bypassContact then .bypass else .off
          t = { s with now := now, pending := t.pending, keypad := t.keypad, recallLatch := t.recallLatch }
            ∧ (serving s = true → t.keypad = { s.keypad with keys := s.keypad.keys.map sampled })
            ∧ (serving s = false → t.keypad = s.keypad)
            ∧ (recallSampled s → position ≠ l.reading →
                t.recallLatch = { l with reading := position, readingSince := now })
            ∧ (¬recallSampled s ∨ position = l.reading → t.recallLatch = l)
            ∧ ∀ c, c ∈ t.pending ↔ clockEvent t c)

/-! ## Invariants -/

/-- Every invariant of Safety.lean holds right after reset. -/
def Obligations.ResetStateIsSafe : Prop := safe State.reset

/-- R15, R16, R17: the receive queue's capacity, its one CAR per car, and the congested state. -/
def Obligations.StepKeepsTheReceiveQueueSafe : Prop := keptByStep queueSafe

/-- 1.2 and R4: the transmitter's state agrees with its attempt, its deadline, its fault count, the start
sequence and address 0. -/
def Obligations.StepKeepsTheLineSafe : Prop := keptByStep lineSafe

/-- R31, R32, R36, R37, R42, R44, R61, R64: the car table and every record in it. -/
def Obligations.StepKeepsTheCarTableSafe : Prop := keptByStep carsSafe

/-- R79: the chime queue; R134, R135, R137: the text slots. -/
def Obligations.StepKeepsTheChimeQueueAndTheNoticeStoreSafe : Prop :=
  keptByStep chimeSafe ∧ keptByStep noticesSafe

/-- R89, R90: the entry; R95: the request file in the order of its creation stamps, and the tag counter. No
two entries have the same tag, while the next tag is not one still held. A step makes the next tag a held
one only by issuing the tag before it: 65,535 new entries were then made while one lived. -/
def Obligations.StepKeepsTheEntryAndTheRequestFileSafe : Prop :=
  keptByStep entrySafe ∧ keptByStep requestsSafe
    ∧ ∀ s t : State, requestsSafe s → (heldTags s).Nodup → tagFree s → step s = .next t →
      (heldTags t).Nodup
        ∧ (tagFree t
          ∨ (∃ r ∈ s.requests.entries, r.tag = t.requests.tagCounter)
            ∧ t.requests.tagCounter =
                if s.requests.tagCounter = 65535 then 1 else s.requests.tagCounter + 1)

/-- R113: the Owned records and the release buffer, with the rows reserved for claims still to be made, never
exceed the row count, whatever leaves, expires or is assigned anew while a TAKE or a RELEASE is on the line. It
rests on the invariants of the line and of the prompt table, which have statements of their own, and `rowsSafe`
names what keeps the bound. -/
def Obligations.StepKeepsTheReservedRowsWithinTheRowCount : Prop :=
  ∀ s t : State, lineSafe s → promptsSafe s → rowsSafe s → step s = .next t → rowsSafe t

/-- R107, R118, R120, R121: the prompt table and the board state of its records; R116: the LFSR never becomes 0.
-/
def Obligations.StepKeepsThePromptTableSafe : Prop := keptByStep promptsSafe ∧ keptByStep lfsrSafe

/-- R148, R149, R179: what a SET latch keeps empty. R176: what DORMANT keeps empty, dark and silent. -/
def Obligations.StepKeepsASetLatchInForceAndDormantQuiet : Prop :=
  keptByStep latchSafe ∧ keptByStep dormantSafe

/-- R143, R146, R170, R179: the night flag, the latch, the drain deadline and the key position. -/
def Obligations.StepKeepsThePowerStatesSafe : Prop := keptByStep powerSafe

/-! ## Resets and start-up -/

/-- RESET_ASSERTED, POWER_ON_RESET and PIN_RESET leave the state of R183, with the key position OFF (R143). An
asserted input is held; the end of a reset ends its input, records its cause, samples the straps, sets the tag
counter to 1 and seeds the LFSR, and LOADING begins unless the other input holds. The station time, and in
reset the sampled straps and the cause, kept as they were, two inputs held at once, and the seed at straps 127
are the model's reading (assumptions 1, 14 and 20). That the captured and recurred marks are clear, of which R183
gives no value, is the model's choice (assumption 37). -/
def Obligations.ResetsLeaveTheTableOfR183 : Prop :=
  ∀ (s : State) (source : ResetSource) (address : BitVec 7) (rate : BitVec 2),
    (∃ t, exec (.resetAsserted source) s = .next t ∧ afterReset t
      ∧ t.start =
          { s.start with
            resetPinAsserted := s.start.resetPinAsserted || source == .pin
            supplyLow := s.start.supplyLow || source == .supply
            stage := .heldInReset
            config := none }
      ∧ t.now = s.now ∧ t.pending = s.pending)
    ∧ (∃ t, exec (.powerOnReset address rate) s = .next t ∧ afterReset t
      ∧ strapsSampled t
          { s.start with supplyLow := false, addressPins := address, ratePins := rate, cause := .powerOn }
      ∧ t.requests.tagCounter = 1 ∧ t.claim.lfsr.toNat = t.start.address * 257 + 1
      ∧ t.now = s.now ∧ t.pending = s.pending)
    ∧ (∃ t, exec (.pinReset address rate) s = .next t ∧ afterReset t
      ∧ strapsSampled t
          { s.start with
            resetPinAsserted := false
            addressPins := address
            ratePins := rate
            cause := .pin }
      ∧ t.requests.tagCounter = 1 ∧ t.claim.lfsr.toNat = t.start.address * 257 + 1
      ∧ t.now = s.now ∧ t.pending = s.pending)

/-- QUERY RESTART: a LINE reset that keeps the tag counter and the LFSR and samples the straps, when the target
is the station's own non-zero address, the latch CLEAR, the status not REJECTED and the state ACTIVE or DIM;
refused or ignored otherwise, in safe mode too (R186). That the reset clears the captured and recurred marks is
the model's choice (assumption 37). -/
def Obligations.QueryRestartIsALineReset : Prop :=
  ∀ (s : State) (e : RxEntry) (rest : List RxEntry),
    running s = true → s.rx.entries = e :: rest → e.kind = .query → byteAt e.payload 1 = 2 →
    ∃ t, exec .queryRestart s = .next t ∧
      (awake s.power.mode = true → byteAt e.payload 0 = s.start.address → s.start.address ≠ 0 →
          s.recallLatch.latched = false → s.start.config ≠ some .rejected →
        afterReset t ∧ t.start.stage = .loading ∧ t.start.cause = .line
          ∧ (s.start.resetPinAsserted = false → s.start.supplyLow = false →
              strapsSampled t { s.start with cause := .line })
          ∧ t.requests.tagCounter = s.requests.tagCounter ∧ t.claim.lfsr = s.claim.lfsr)
      ∧ (awake s.power.mode = false ∨ byteAt e.payload 0 ≠ s.start.address ∨ s.start.address = 0
          ∨ s.recallLatch.latched = true ∨ s.start.config = some .rejected →
        settles (headTaken s rest) t)

/-- LOADING_END: the configuration status of R185, the map and settings kept, and SELF_CHECK with its test
STAT of the station's address and content as they stand, or RUNNING with the transmitter OFF at address 0
(R187), where each block takes up its running state (R188), every key is UP (R84) and no alert is made (R192).
A REJECTED station there joins the line and no more (R186). The memory is an operand (assumption 18), and the
settings that a REJECTED station holds, and the code of the Muted field in the test STAT, are the model's
choices (assumptions 35 and 38). -/
def Obligations.LoadingEndDecidesTheConfiguration : Prop :=
  ∀ (s : State) (memory : List Byte), s.start.stage = .loading →
    let image := loadImage memory s.start.address
    let status : ConfigStatus :=
      match image with
      | none => .rejected
      | some r => if r.2 || s.start.addressRefused then .partially else .ok
    let settings : Settings := (image.map Prod.fst).getD Settings.none
    let decided : State :=
      { s with
        cfg := settings
        start := { s.start with config := some status }
        recallLatch :=
          if settings.keyFitted then s.recallLatch else { s.recallLatch with position := .off } }
    ∃ t, exec (.loadingEnd memory) s = .next t
      ∧ t.start.config = some status ∧ t.cfg = settings
      ∧ (s.start.address ≠ 0 →
          t =
            { decided with
              start := { decided.start with stage := .selfCheck }
              line :=
                { s.line with testStat := some (telegramOf 6 8 s.start.address (statContent decided)) } })
      ∧ (s.start.address = 0 → s.power.mode = .active →
          t.start.stage = .running ∧ t.line.tx = .off ∧ t.line.watch = .joining
            ∧ t.status.slot = s.status.slot ∧ t.status.alertPending = s.status.alertPending
            ∧ (status ≠ .rejected →
                settles (takenUp .off decided) t
                  ∧ t.keypad.locked = false ∧ (∀ r ∈ t.keypad.keys, r.state = .up)
                  ∧ ∀ (i : Nat) (v : RegionView), t.display.regions[i]? = some v →
                      v.text = codesOf (compose t i v.region) ∧ v.offset = 0
                        ∧ v.deadline = some (s.now + 1000))
            ∧ (status = .rejected →
                settles
                  { decided with
                    start := { decided.start with stage := .running }
                    line :=
                      { s.line with
                        watch := .joining, receiving := false, tx := .off, testStat := none } } t))

/-- SELF_CHECK_END: the outcome table of R187 and the running state of R188, whole, with the effects of R148 where
the key is at ON (R144); a REJECTED station joins the line and no more (R186). The alert test is made for every
flag then set, each taken as newly set (R192): a flag of the mask queues an alert in an empty slot, or sets the
pending mark while a hold-off runs, but not at address 0. What was read back is an operand (assumption 18). -/
def Obligations.SelfCheckEndEntersRunning : Prop :=
  ∀ (s : State) (loop : LoopBack), s.start.stage = .selfCheck → s.power.mode = .active →
    let tx : TxState := if loop = .everyBitEqual then .ready else .held
    let flagged : StatusBlock :=
      if loop = .everyBitEqual then s.status else (setFlag .txMuted s).status
    let masked : Prop := ∃ g : Flag, hasFlag flagged.flags g = true ∧ hasFlag s.cfg.alertMask g = true
    let holds : Prop := ∃ d, s.status.holdOff = some d ∧ s.now ≤ d
    ∃ t, exec (.selfCheckEnd loop) s = .next t
      ∧ flagged.flags = (if loop = .everyBitEqual then s.status.flags else s.status.flags ||| flagWord .txMuted)
      ∧ t.status = { flagged with slot := t.status.slot, alertPending := t.status.alertPending }
      ∧ (s.status.slot = none → masked → s.start.address ≠ 0 →
          (¬holds → t.status.slot = some .alert ∧ t.status.alertPending = s.status.alertPending)
            ∧ (holds → t.status.slot = none ∧ t.status.alertPending = true))
      ∧ (s.status.slot.isSome = true ∨ ¬masked ∨ s.start.address = 0 →
          t.status.slot = s.status.slot ∧ t.status.alertPending = s.status.alertPending)
      ∧ (s.start.config ≠ some .rejected →
          settles { takenUp tx s with status := t.status } t
            ∧ (t.recallLatch.latched = true ↔ s.recallLatch.position = .on)
            ∧ ∀ (i : Nat) (v : RegionView), t.display.regions[i]? = some v →
                v.text = codesOf (compose t i v.region) ∧ v.offset = 0 ∧ v.stepping = false
                  ∧ v.deadline = some (s.now + 1000))
      ∧ (s.start.config = some .rejected →
          settles
            { s with
              start := { s.start with stage := .running }
              line := { s.line with watch := .joining, receiving := false, tx := tx, testStat := none }
              status := t.status } t)

/-! ## The configuration image -/

/-- R185, steps 1 and 2: an image is REJECTED exactly when a check fails: the format code, the length, a memory
that does not answer every byte (assumption 18), the CRC, or a structural check of R20 on the floor
entries: the count, the order, the gaps, the form of a label, two equal labels, or no displayable floor.
R30, R185, step 3: an accepted image is PARTIAL exactly when a value was clamped, raised or replaced, a
name code replaced, or a used region or lantern entry dropped. -/
def Obligations.BadImagesAreRejected : Prop :=
  ∀ (m : List Byte) (address : Nat),
    let b := byteAt m
    let w := wordAt m
    let n := b 3
    let level (f : Nat) : Nat := tripleAt m (411 + 8 * f) % 1048576
    let labelByte (f j : Nat) : Nat := b (411 + 8 * f + 3 + j)
    let labelChar (c : Nat) : Prop := (48 ≤ c ∧ c ≤ 57) ∨ c = 66 ∨ c = 76 ∨ c = 77 ∨ c = 83
    let labelForm (f : Nat) : Prop :=
      labelChar (labelByte f 0)
        ∧ ((labelByte f 1 = 0 ∧ labelByte f 2 = 0)
          ∨ (labelChar (labelByte f 1) ∧ (labelByte f 2 = 0 ∨ labelChar (labelByte f 2))))
    let unanswered : Prop :=
      b 0 ≠ 3 ∨ w 1 ≠ 413 + 8 * n ∨ w 1 < 429 ∨ 1437 < w 1 ∨ m.length < w 1
        ∨ w (w 1 - 2) ≠ (crc16 (bitsOfBytes (m.take (w 1 - 2)))).toNat
    let badMap : Prop :=
      n < 2 ∨ 128 < n
        ∨ (∃ f, f + 1 < n ∧ level (f + 1) ≤ level f)
        ∨ (∃ f, f + 1 < n ∧ (level (f + 1) < level f + 1000 ∨ level f + 60000 < level (f + 1)))
        ∨ (∃ f, f < n ∧ ¬labelForm f)
        ∨ (∃ f g, f < g ∧ g < n ∧ ∀ j, j < 3 → labelByte f j = labelByte g j)
        ∨ (∀ f, f < n → b (411 + 8 * f + 6) % 2 = 0)
    let out (x lo hi : Nat) : Prop := x < lo ∨ hi < x
    let changed : Prop :=
      out (b 4) 1 15 ∨ out (w 5) 0 500 ∨ out (w 7) 500 8000 ∨ out (w 9) 5000 60000
        ∨ w 9 < max 500 (min 8000 (w 7)) + 1000
        ∨ out (w 11) 0 10000 ∨ out (w 13) 1000 10000 ∨ out (w 15) 2000 15000
        ∨ out (b 17) 10 180 ∨ out (b 18) 10 100 ∨ out (b 19) 1 8 ∨ out (b 20) 20 200
        ∨ out (b 21) 0 15 ∨ out (b 22) 0 15 ∨ out (b 23) 1 4 ∨ out (b 24) 1 32
        ∨ (∃ j, j < 4 ∧ 3 < b (25 + j) ∧ b (25 + j) < 253)
        ∨ out (b 29) 0 120 ∨ (b 30 ≠ 255 ∧ n ≤ b 30)
        ∨ (∃ j, j < 8 ∧ b (35 + 2 * j) ≠ 0 ∧ 6 < b (36 + 2 * j))
        ∨ ∃ i, i < 128 ∧ b (179 + i) ≠ 0 ∧ out (b (179 + i)) 33 126
    (loadImage m address = none ↔ unanswered ∨ badMap)
      ∧ ∀ (c : Settings) (p : Bool), loadImage m address = some (c, p) →
        (p = true ↔
          changed
            ∨ c.regions.length < ((List.range 8).filter fun j => b (307 + 7 * j) != 0).length
            ∨ c.lanterns.length < ((List.range 8).filter fun j => b (363 + 6 * j) != 255).length)

/-- What the loader makes of an accepted image (12.3, R19, R21, R24, R25, R196): its floors as R20 lets them
through, its values each held in its range, its texts and names; regions that fit the matrix, share no cell
and pass R27; lanterns that pass R28; and a pinned set of at most 16 distinct keys (R29). Each surviving item
is an entry of the image, in image order; one left out fails a check beside the survivors. -/
def Obligations.AcceptedImagesPassTheirChecks : Prop :=
  ∀ (m : List Byte) (address : Nat) (c : Settings) (p : Bool), loadImage m address = some (c, p) →
    let b := byteAt m
    let w := wordAt m
    let within (lo hi x : Nat) : Nat := max lo (min hi x)
    let text (at_ : Nat) : List Nat :=
      ((List.range 64).map fun j => b (at_ + j)).takeWhile fun x => x != 0
    let inGroup (k : CarKey) : Prop := c.groups.getLsbD k.group.val = true
    (c.switchFraction = within 1 15 (b 4) ∧ c.hysteresis = within 0 500 (w 5)
      ∧ c.staleTimeout = within 500 8000 (w 7)
      ∧ c.lostTimeout = max (within 5000 60000 (w 9)) (c.staleTimeout + 1000)
      ∧ c.lanternLead = within 0 10000 (w 11) ∧ c.requestTimeout = within 1000 10000 (w 13)
      ∧ c.replyTime = within 2000 15000 (w 15) ∧ c.defaultValidity = within 10 180 (b 17)
      ∧ c.holdoffBase = within 10 100 (b 18) ∧ c.rowCount = within 1 8 (b 19)
      ∧ c.scrollStep = within 20 200 (b 20) ∧ c.activeLevel = within 0 15 (b 21)
      ∧ c.dimLevel = within 0 15 (b 22) ∧ c.lineCount = within 1 4 (b 23)
      ∧ c.lineWidth = within 1 32 (b 24) ∧ c.dormantDelay = within 0 120 (b 29)
      ∧ (∀ j, j < 4 → c.trims[j]? =
          some (max (-3) (min 3 (if b (25 + j) < 128 then (b (25 + j) : Int) else b (25 + j) - 256))))
      ∧ c.homeFloor = (if b 30 = 255 ∨ b 3 ≤ b 30 then none else some (b 30))
      ∧ c.groups = BitVec.ofNat 8 (b 31) ∧ (c.keyFitted = true ↔ b 32 ≠ 0)
      ∧ c.alertMask = BitVec.ofNat 13 (w 33)
      ∧ c.affinity =
          ((List.range 8).filter fun j => b (35 + 2 * j) != 0).map
            (fun j => (b (35 + 2 * j), min (b (36 + 2 * j)) 6))
      ∧ c.recallText = text 51 ∧ c.idleText = text 115
      ∧ c.carNames =
          (List.range 128).map fun i =>
            if 33 ≤ b (179 + i) ∧ b (179 + i) ≤ 126 then b (179 + i) else 65 + i % 16)
    ∧ (mapSafe c ∧ c.floors.length = b 3 ∧ c.floors.length ≤ 128
      ∧ (∀ f x, c.floors[f]? = some x →
          x.level = tripleAt m (411 + 8 * f) % 1048576
            ∧ x.label =
                ([b (414 + 8 * f), b (415 + 8 * f), b (416 + 8 * f)] : List Nat).filter (fun y => y != 0)
            ∧ (x.displayable = true ↔ b (417 + 8 * f) % 2 = 1)
            ∧ x.served = BitVec.ofNat 8 (b (418 + 8 * f))
            ∧ 1 ≤ x.label.length ∧ x.label.length ≤ 3
            ∧ ∀ y ∈ x.label, (48 ≤ y ∧ y ≤ 57) ∨ y = 66 ∨ y = 76 ∨ y = 77 ∨ y = 83)
      ∧ (c.floors.map Floor.label).Nodup
      ∧ c.gaps.length + 1 = c.floors.length
      ∧ ∀ f x y, c.floors[f]? = some x → c.floors[f + 1]? = some y →
          x.level + 1000 ≤ y.level ∧ y.level ≤ x.level + 60000
            ∧ c.gaps[f]? = some (y.level - x.level))
    ∧ (c.regions.length ≤ 8 ∧ c.regions.Pairwise (fun g h => overlap h g = false)
      ∧ (c.regions.filter fun g => g.kind == .board).length ≤ 1
      ∧ (c.regions.filter fun g => g.kind == .kiosk).length ≤ 1
      ∧ ∀ g ∈ c.regions, g.line < c.lineCount ∧ 0 < g.width ∧ g.first + g.width ≤ c.lineWidth
        ∧ ((g.kind = .board ∨ g.kind = .kiosk) → c.homeFloor.isSome = true ∧ address ≠ 0)
        ∧ (∀ k d, g.kind = .position k d → inGroup k) ∧ (∀ k, g.kind = .stoplist k → inGroup k))
    ∧ (c.lanterns.length ≤ 8 ∧ (c.lanterns.map LanternEntry.output).Nodup
      ∧ ∀ l ∈ c.lanterns, l.output < 8 ∧ l.landing < c.floors.length
        ∧ (l.deck = .upper → l.landing ≠ 0) ∧ inGroup l.car)
    ∧ (c.regions.Sublist
        ((List.range 8).filterMap fun j =>
          (regionKindOf (b (307 + 7 * j)) (b (312 + 7 * j)) (b (313 + 7 * j))).map fun k =>
            { kind := k
              line := b (308 + 7 * j)
              first := b (309 + 7 * j)
              width := b (310 + 7 * j)
              overlay := decide (k ≠ .notice ∧ b (311 + 7 * j) ≠ 0) })
      ∧ c.lanterns.Sublist
        ((List.range 8).filterMap fun j =>
          match itemDeck (b (365 + 6 * j)), lanternDirection (b (367 + 6 * j)),
              driveModeOf (b (368 + 6 * j)) with
          | some deck, some dir, some mode =>
            if b (363 + 6 * j) < 8 then
              some
                { output := b (363 + 6 * j)
                  car := carKeyOf (b (364 + 6 * j))
                  deck := deck
                  landing := b (366 + 6 * j)
                  direction := dir
                  mode := mode }
            else none
          | _, _, _ => none))
    ∧ (c.pinned.Nodup ∧ c.pinned.length ≤ 16
      ∧ ∀ k, k ∈ c.pinned ↔
        (∃ g ∈ c.regions, g.kind = .stoplist k ∨ ∃ d, g.kind = .position k d) ∨ ∃ l ∈ c.lanterns, l.car = k)
    ∧ ∀ j, j < 8 →
      (∀ k, regionKindOf (b (307 + 7 * j)) (b (312 + 7 * j)) (b (313 + 7 * j)) = some k →
        let g : Region :=
          { kind := k
            line := b (308 + 7 * j)
            first := b (309 + 7 * j)
            width := b (310 + 7 * j)
            overlay := decide (k ≠ .notice ∧ b (311 + 7 * j) ≠ 0) }
        g ∈ c.regions ∨ c.lineCount ≤ g.line ∨ g.width = 0 ∨ c.lineWidth < g.first + g.width
          ∨ (∃ h ∈ c.regions, overlap g h = true) ∨ (∃ car ∈ regionCar k, ¬inGroup car)
          ∨ ((k = .board ∨ k = .kiosk)
            ∧ (c.homeFloor = none ∨ address = 0 ∨ ∃ h ∈ c.regions, h.kind = k)))
      ∧ ∀ deck dir mode, b (363 + 6 * j) < 8 → itemDeck (b (365 + 6 * j)) = some deck →
        lanternDirection (b (367 + 6 * j)) = some dir → driveModeOf (b (368 + 6 * j)) = some mode →
        let e : LanternEntry :=
          { output := b (363 + 6 * j)
            car := carKeyOf (b (364 + 6 * j))
            deck := deck
            landing := b (366 + 6 * j)
            direction := dir
            mode := mode }
        e ∈ c.lanterns ∨ c.floors.length ≤ e.landing ∨ ¬inGroup e.car
          ∨ (e.deck = .upper ∧ e.landing = 0) ∨ ∃ h ∈ c.lanterns, h.output = e.output

/-- The properties of the switch points that R21 lists, for the map and fraction of an accepted image. -/
def Obligations.SwitchPointsSeparateTheLevels : Prop :=
  ∀ (m : List Byte) (address : Nat) (c : Settings) (p : Bool), loadImage m address = some (c, p) →
    ∀ f, f + 1 < c.floors.length →
      ∃ sw, c.switchPoints[f]? = some sw
        ∧ (sw : Int) = levelOf c f
            + ((levelOf c (f + 1) - levelOf c f) * c.switchFraction).tdiv 16
        ∧ levelOf c f < sw ∧ (sw : Int) < levelOf c (f + 1)
        ∧ ∀ sw', c.switchPoints[f + 1]? = some sw' → sw + 1000 ≤ sw'

/-! ## The fixture line -/

/-- R3, R12, R15 to R17, R195: what a completed telegram comes to. The checks of R3 are its CRC, its length,
its kind and the kind's fixed part; the CRC agrees exactly when the register run through the CRC bits as
well finds zero, and "123456789" gives 0x29B1. With the receiver off or joining, or while the station
sends, nothing is received. That a merge keeps the entry's source is the model's reading (assumption 13). -/
def Obligations.TelegramsAreCheckedFilteredAndQueued : Prop :=
  (∀ f : Frame,
    let fixed : Nat :=
      match f.kind.toNat with
      | 1 => 4 | 2 => 5 | 3 => 12 | 4 => 10 | 5 => 5 | 6 => 6 | 7 => 1 | 8 => 12 | 9 => 2 | _ => 0
    let code (k : Kind) : Nat :=
      match k with
      | .notice => 1 | .wake => 2 | .car => 3 | .assign => 4 | .shows => 5 | .req => 6 | .stops => 7
      | .stat => 8 | .query => 9
    (checkedKind f = none ↔
      f.kind = 0 ∨ 9 < f.kind.toNat ∨ 24 < f.length.toNat ∨ f.length.toNat < fixed
        ∨ f.payload.length ≠ f.length.toNat ∨ f.crc ≠ crc16 (frameBits f))
    ∧ (∀ k, checkedKind f = some k → f.kind.toNat = code k)
    ∧ (frameBits f).length = 19 + 8 * f.payload.length
    ∧ (f.crc = crc16 (frameBits f) ↔ crc16 (frameBits f ++ bitsOf 16 f.crc.toNat) = 0))
  ∧ crc16 (bitsOfBytes [0x31, 0x32, 0x33, 0x34, 0x35, 0x36, 0x37, 0x38, 0x39]) = 0x29B1
  ∧ ∀ (s : State) (f : Frame),
    let ended : State := { s with line := { s.line with watch := .busy, receiving := false } }
    ((s.line.watch = .off ∨ s.line.watch = .joining ∨ s.line.tx = .sending) →
      exec (.telegramReceived f) s = .next s)
    ∧ (s.line.watch = .busy ∨ s.line.watch = .idle → s.line.tx ≠ .sending →
      ∃ t, exec (.telegramReceived f) s = .next t
        ∧ (checkedKind f = none → settles (setFlag .lineCheckError ended) t)
        ∧ ∀ k, checkedKind f = some k →
          (admits s k f.payload = false → settles ended t)
          ∧ (admits s k f.payload = true →
              let e : RxEntry :=
                { kind := k, source := f.source.toNat, payload := f.payload, stamp := s.now }
              let sameCar (x : RxEntry) : Bool :=
                x.kind == .car && carKeyOf (byteAt x.payload 0) == carKeyOf (byteAt f.payload 0)
              let merge : Prop := k = .car ∧ s.rx.entries.any sameCar = true
              (merge →
                settles
                  { ended with
                    rx :=
                      { s.rx with
                        entries := s.rx.entries.map fun x =>
                          if sameCar x then { x with payload := f.payload, stamp := s.now } else x } } t)
              ∧ (¬merge → 24 ≤ s.rx.entries.length → settles (setFlag .rxOverrun ended) t)
              ∧ (¬merge → s.rx.entries.length < 24 →
                  (18 ≤ s.rx.entries.length + 1 ∧ s.rx.congested = false →
                    settles
                      (setFlag .congestionEntered
                        { ended with rx := { entries := s.rx.entries ++ [e], congested := true } }) t)
                  ∧ (¬(18 ≤ s.rx.entries.length + 1 ∧ s.rx.congested = false) →
                    settles { ended with rx := { s.rx with entries := s.rx.entries ++ [e] } } t))))

/-- The acceptance filter: R186 for a station in safe mode, and for any other the table of R12 awake and
R177's narrowing asleep. R13 is the scope of a notice or broadcast wake: a range with lo above hi holds no
floor, and one past the top floor is compared as numbers. In DORMANT exactly RECALL, DAY and the TEXT parts
of slot URGENT are admitted, each in scope. That a TEXT too short to have its slot byte is none of them is the
model's choice (assumption 3). -/
def Obligations.TheFilterFollowsItsTables : Prop :=
  (∀ (s : State) (k : Kind) (p : List Byte), rejected s = true →
    (admits s k p = true ↔
      k = .query ∧ ((byteAt p 0 = s.start.address ∧ byteAt p 0 ≠ 0) ∨ byteAt p 0 = 127)))
  ∧ (∀ (c : Settings) (mask lo hi : Nat),
    (inScope c mask lo hi = true ↔
      (∃ g, g < 8 ∧ c.groups.getLsbD g = true ∧ mask.testBit g = true)
        ∧ (c.homeFloor = none ∨ ∃ h, c.homeFloor = some h ∧ lo ≤ h ∧ h ≤ hi))
    ∧ (hi < lo → inScope c mask lo hi = true → c.homeFloor = none))
  ∧ ∀ (s : State) (p : List Byte), rejected s = false →
    let key := carKeyOf (byteAt p 0)
    let inGroup : Bool := s.cfg.groups.getLsbD key.group.val
    let pinned : Prop := ∃ c ∈ s.cars, c.key = key ∧ c.pinned = true
    (key.group.val = byteAt p 0 / 16 % 8 ∧ key.car.val = byteAt p 0 % 16)
    ∧ (admits s .req p = false ∧ admits s .stat p = false)
    ∧ (s.power.mode = .active ∨ s.power.mode = .dim →
        (admits s .car p = inGroup)
        ∧ (admits s .stops p = true ↔ inGroup = true ∧ (s.rx.congested = false ∨ pinned))
        ∧ (admits s .assign p = true ↔
            s.cfg.homeFloor = some (byteAt p 0)
              ∧ (kioskJob s.cfg = true ∨ boardStation s.cfg = true))
        ∧ (admits s .shows p = true ↔
            s.cfg.homeFloor = some (byteAt p 0) ∧ boardStation s.cfg = true)
        ∧ (admits s .query p = true ↔
            (byteAt p 0 = s.start.address ∧ byteAt p 0 ≠ 0) ∨ byteAt p 0 = 127))
    ∧ (s.power.mode ≠ .dormant →
        admits s .notice p = inScope s.cfg (byteAt p 1) (byteAt p 2) (byteAt p 3))
    ∧ (admits s .wake p = true ↔
        (byteAt p 0 = s.start.address ∧ byteAt p 0 ≠ 0)
          ∨ (byteAt p 0 = 127 ∧ inScope s.cfg (byteAt p 2) (byteAt p 3) (byteAt p 4) = true))
    ∧ (s.power.mode = .draining ∨ s.power.mode = .dormant →
        admits s .assign p = false ∧ admits s .query p = false)
    ∧ (s.power.mode = .draining →
        (admits s .car p = inGroup)
        ∧ (admits s .stops p = true ↔ inGroup = true ∧ (s.rx.congested = false ∨ pinned))
        ∧ (admits s .shows p = true ↔
            s.cfg.homeFloor = some (byteAt p 0) ∧ boardStation s.cfg = true))
    ∧ (s.power.mode = .dormant →
        admits s .stops p = false ∧ admits s .shows p = false
          ∧ (admits s .car p = true ↔ inGroup = true ∧ pinned)
          ∧ (admits s .notice p = true ↔
              inScope s.cfg (byteAt p 1) (byteAt p 2) (byteAt p 3) = true
                ∧ (byteAt p 0 = 1 ∨ byteAt p 0 = 6
                  ∨ (byteAt p 0 = 3 ∧ 5 ≤ p.length ∧ byteAt p 4 = 0))))

/-- LINE_IDLE (R3, R188, R197): 2 T without an edge makes a busy or joining line idle, and a telegram not yet
complete is cut short: one the station receives, which after a FAULT is the model's choice (assumption 39). Out
of those states nothing happens (assumption 2). -/
def Obligations.LineIdleFreesTheLine : Prop :=
  ∀ s : State,
    let idle : State := { s with line := { s.line with watch := .idle, receiving := false } }
    ∃ t, exec .lineIdle s = .next t
      ∧ (s.line.watch = .joining → settles idle t)
      ∧ (s.line.watch = .busy → s.line.tx ≠ .sending → s.line.receiving = false → settles idle t)
      ∧ (s.line.watch = .busy → s.line.tx ≠ .sending → s.line.receiving = true →
          settles (setFlag .lineCheckError idle) t)
      ∧ (s.line.watch = .off ∨ s.line.watch = .idle
          ∨ (s.line.watch = .busy ∧ s.line.tx = .sending) → t = s)

/-- R1, R4, R10, R11, R97, R117, R133, R190, R191, R194: at the next idle a READY station begins the attempt of
the first class, from its pointer on, that offers a telegram; a class with nothing to offer passes the offer on.
SHOW items that fail the check of R11 one after the other are dropped at the head of the FIFO, their marks
cleared. The REQ is that of the oldest Queued entry, the SHOW that of the first item that passes, and the STAT
captures the blocks with every flag captured and every recurred mark cleared. Each has its kind's priority and
code, its own address as source, its payload of 12.1 with that length, and the CRC over them all (R195). With
nothing in any class no attempt begins. A drain that ends at the same instant is left out. THE MODEL'S READING
(assumption 29), of what R11 and R117 leave open: a withdrawn item, whose record or entry left while it was on
the line, fails the check even where a marked record of its key has been made anew, and its drop leaves that
record's mark set. The code of STAT's Muted field, for which 12.1 lists none, is the model's choice (assumption
38). -/
def Obligations.IdleLineBeginsTheFirstOffer : Prop :=
  ∀ s : State,
    s.line.watch = .busy → s.line.tx = .ready → s.line.receiving = false →
    s.power.mode ≠ .dormant → drainHolds s →
    let sends (t : State) (a : Attempt) : Prop :=
      t.line = { s.line with watch := .busy, receiving := false, tx := .sending, attempt := some a }
    let home : Byte := BitVec.ofNat 8 (s.cfg.homeFloor.getD 0)
    ∃ t, exec .lineIdle s = .next t
      ∧ t.requests = s.requests ∧ t.releases = s.releases ∧ t.pointer = s.pointer
      ∧ (∀ r, s.requests.entries.find? (fun q => !q.sent) = some r → comesTo s .req →
        sends t
            { item := .req r.tag
              frame :=
                telegramOf 3 6 s.start.address
                  [home, BitVec.ofNat 8 (r.tag / 256), BitVec.ofNat 8 r.tag, BitVec.ofNat 8 r.dest,
                    (match r.cls with | .standard => 0 | .accessible => 1), BitVec.ofNat 8 r.count] }
          ∧ t.showFifo = (if s.pointer = .shows then [] else s.showFifo) ∧ t.status = s.status)
      ∧ (∀ dropped i q, s.showFifo = dropped ++ i :: q → droppedInTurn s dropped →
          passesCheck (afterDrops s dropped) i → comesTo s .shows →
        sends t
            { item := .shows i.act i.key
              frame :=
                telegramOf 3 5 s.start.address
                  [home, (match i.act with | .firstTake => 1 | .reassert => 1 | .release => 2),
                    BitVec.ofNat 8 i.key.kiosk, BitVec.ofNat 8 (i.key.tag / 256),
                    BitVec.ofNat 8 i.key.tag] }
          ∧ t.showFifo = { i with onLine := true } :: q ∧ t.status = s.status
          ∧ ∀ j ∈ dropped, isTakeOf j.key j = true → ∀ p ∈ t.prompts, p.key = j.key → p.takeQueued = false)
      ∧ (s.status.slot.isSome = true → comesTo s .stat →
        sends t { item := .stat, frame := telegramOf 6 8 s.start.address (statContent s) }
          ∧ t.showFifo = (if s.pointer = .stat then s.showFifo else [])
          ∧ t.status = { s.status with captured := s.status.flags, recurred := 0 })
      ∧ (nothingIn s .req → nothingIn s .shows → nothingIn s .stat →
        t.line = { s.line with watch := .idle, receiving := false } ∧ t.showFifo = []
          ∧ t.status = s.status)

/-- R5, R10: the fault count is 0 and the pointer moves on. R97: a WON REQ makes its entry Sent. R129: a WON
RELEASE withdraws its claim: its entry leaves the release buffer and its item the FIFO; one whose entry left
(R129), or whose item was purged (R9, R131), while it was on the line finds no entry, and its item alone leaves.
R190 to R192: a WON STAT empties the slot, clears the flags captured and not recurred and the pending mark, and
an alert starts the hold-off of 1,000 ms. -/
def Obligations.WonOwnTelegramsAreSettledByTheirOwners : Prop :=
  ∀ (s : State) (a : Attempt), s.line.tx = .sending → s.line.attempt = some a →
    let ended : State :=
      { s with
        line := { s.line with tx := .ready, attempt := none, faults := 0 }
        showFifo := s.showFifo.map fun i => { i with onLine := false } }
    ∃ t, exec .attemptWon s = .next t ∧ t.line.faults = 0
      ∧ (∀ tag, a.item = .req tag →
        settles
          { ended with
            pointer := .shows
            requests :=
              { s.requests with
                entries := s.requests.entries.map fun r =>
                  if r.tag = tag then { r with sent := true } else r } } t)
      ∧ (∀ k, a.item = .shows .release k →
        let rest := s.showFifo.filter fun i => !i.onLine
        let held : Prop := ∃ i ∈ s.showFifo, i.onLine = true ∧ i.withdrawn = false
        (held →
          settles
            { ended with
              pointer := .stat
              releases := s.releases.filter fun r => r.key != k
              showFifo := rest.filter fun i => !isReleaseOf k i } t)
        ∧ (¬held → settles { ended with pointer := .stat, showFifo := rest } t))
      ∧ (a.item = .stat →
        t.pointer = .req ∧ t.status.slot = none ∧ t.status.alertPending = false
          ∧ (∀ g : Flag, hasFlag t.status.flags g =
              (hasFlag s.status.flags g
                && !(hasFlag s.status.captured g && !hasFlag s.status.recurred g)))
          ∧ t.status.holdOff =
              (if s.status.slot = some .alert then some (s.now + 1000) else s.status.holdOff)
          ∧ settles
              { ended with
                pointer := .req
                status :=
                  { s.status with
                    slot := none
                    alertPending := false
                    flags := s.status.flags &&& ~~~(s.status.captured &&& ~~~s.status.recurred)
                    holdOff :=
                      if s.status.slot = some .alert then some (s.now + 1000) else s.status.holdOff } } t)

/-- The table of R118 for a WON TAKE, a first take and a reassert alike: its item leaves the FIFO and the
record's mark is cleared; a Pending record becomes Owned, as does a Watched one whose claimant's address is the
higher, with CLAIM_CONFLICT; an Owned one, one that a lower address holds, and no record stay as they are. In
DRAINING (R130) the key of a record that would be Owned goes to the release buffer with the drain's deadline,
and its RELEASE to the FIFO. A TAKE whose record left (R112, R126, R128), or whose item was purged (R9, R131,
R132), while it was on the line finds no record, and its item alone leaves, whatever an ASSIGN has made of its
key since. The model's own are the order within a claim time (assumption 9), that a record made Owned keeps a
holdoff that runs, in states that no run reaches (assumption 23), that a Watched one won in DRAINING sets no
CLAIM_CONFLICT (assumption 24), and that a record goes to the release buffer with its local part (assumption
36); of a claimant at the station's own address nothing is said (assumption 4). -/
def Obligations.WonTakeFollowsTheTableOfR118 : Prop :=
  ∀ (s : State) (act : ShowAct) (k : AssignKey) (f : Frame),
    act ≠ .release → s.line.tx = .sending →
    s.line.attempt = some { item := .shows act k, frame := f } →
    let rest := s.showFifo.filter fun i => !i.onLine
    let won (g : PromptRecord → PromptRecord) : State :=
      { s with
        line := { s.line with tx := .ready, attempt := none, faults := 0 }
        pointer := .stat
        showFifo := rest
        prompts := s.prompts.map fun p => if p.key = k then g { p with takeQueued := false } else p }
    let owned : State :=
      { won fun p =>
          { p with
            board := .owned
            claimant := none
            reassertDone := false
            claimTime := some s.now
            claimOrder := s.claim.claims } with
        claim := { s.claim with claims := s.claim.claims + 1 } }
    let released (d : Nat) : State :=
      { won id with
        prompts := s.prompts.filter fun p => p.key != k
        releases := s.releases ++ [{ key := k, deadline := d }]
        showFifo :=
          (rest.filter fun i => !isTakeOf k i) ++ [{ act := .release, key := k, onLine := false }] }
    let held : Prop := ∃ i ∈ s.showFifo, i.onLine = true ∧ i.withdrawn = false
    ∃ t, exec .attemptWon s = .next t
      ∧ (¬held → settles { won id with prompts := s.prompts } t)
      ∧ (held → findPrompt s.prompts k = none → settles (won id) t)
      ∧ ∀ p, held → findPrompt s.prompts k = some p →
        (p.board = .owned ∨ p.board = .none → settles (won id) t)
        ∧ (p.board = .pending → s.power.mode ≠ .draining → settles owned t)
        ∧ (∀ d, p.board = .pending → s.power.mode = .draining → s.power.drainDeadline = some d →
            settles (released d) t)
        ∧ ∀ a, p.board = .watched → p.claimant = some a →
          (a < s.start.address → settles (won id) t)
          ∧ (s.start.address < a → s.power.mode ≠ .draining → settles (setFlag .claimConflict owned) t)
          ∧ (∀ d, s.start.address < a → s.power.mode = .draining → s.power.drainDeadline = some d →
              settles (released d) t)

/-- R6: LOST leaves the telegram, the pointer and the fault count, and the station receives the winner. R7,
R8: FAULT adds 1 to the count, and the sixteenth brings MUTED for 1,000 ms with TX_MUTED; at the MUTED
deadline the count is 0 and the transmitter READY. The telegram stays pending: while the line is busy the
SHOW FIFO and the STAT slot hold what they held, and the request file does so at once. That the station does not
become a receiver by a FAULT is the model's choice (assumption 39). -/
def Obligations.LostFaultAndMutedKeepTheTelegram : Prop :=
  (∀ (s : State) (a : Attempt), s.line.tx = .sending → s.line.attempt = some a →
    let ended : State :=
      { s with
        line := { s.line with tx := .ready, attempt := none }
        showFifo := s.showFifo.map fun i => { i with onLine := false } }
    let kept (t : State) : Prop :=
      s.line.watch = .busy → ¬(s.power.mode = .draining ∧ s.releases = []) →
        t.showFifo = (s.showFifo.map fun i => { i with onLine := false })
          ∧ t.requests = s.requests ∧ t.pointer = s.pointer
          ∧ (s.status.slot.isSome = true → t.status.slot = s.status.slot)
    (∃ t, exec .attemptLost s = .next t
      ∧ settles { ended with line := { ended.line with receiving := true } } t
      ∧ kept t ∧ (s.line.watch = .busy → t.status = s.status))
    ∧ (s.line.faults + 1 < 16 →
      ∃ t, exec .attemptFault s = .next t
        ∧ settles { ended with line := { ended.line with faults := s.line.faults + 1 } } t
        ∧ kept t ∧ (s.line.watch = .busy → t.status = s.status))
    ∧ (s.line.faults + 1 = 16 →
      ∃ t, exec .attemptFault s = .next t
        ∧ settles
            (setFlag .txMuted
              { ended with
                line :=
                  { ended.line with
                    tx := .muted, faults := 16, mutedUntil := some (s.now + 1000) } }) t
        ∧ kept t))
  ∧ ∀ (s : State) (d : Nat), s.line.tx = .muted → s.line.mutedUntil = some d → d ≤ s.now →
    ∃ t, exec .mutedDeadline s = .next t
      ∧ settles { s with line := { s.line with tx := .ready, faults := 0, mutedUntil := none } } t
      ∧ (s.line.watch = .busy → drainHolds s →
          t.showFifo = s.showFifo ∧ t.status = s.status ∧ t.requests = s.requests)

/-- LINE_BUSY (R197): a peer's edge T/4 or more before the planned edge, or with nothing that may be sent, makes
the station a receiver; less than T/4 before it, a READY station with a telegram to offer begins with that edge,
as on an idle line. A telegram is offered by a Queued entry, a full STAT slot, or a SHOW item that passes its
check in its turn (R10, R11, R117); that a withdrawn one passes none is the model's reading (assumption 29). An
edge during a telegram that its sender broke off does the same; that the telegram is cut short with
LINE_CHECK_ERROR where the station begins, and sets no flag where it goes on receiving, are the model's reading
and its choice (assumptions 32 and 40). While the receiver is off (assumption 2) or still joining (R188,
assumption 34), and while the station sends, nothing changes. The time to the planned edge is an operand
(assumption 17). -/
def Obligations.LineBusyReceivesOrBegins : Prop :=
  ∀ (s : State) (planned : Nat),
    ((s.line.watch = .off ∨ s.line.watch = .joining ∨ s.line.tx = .sending) →
      exec (.lineBusy planned) s = .next s)
    ∧ ((s.line.watch = .busy ∨ s.line.watch = .idle) → s.line.tx ≠ .sending → drainHolds s →
      let quarter : Nat :=
        match s.start.rateCode.toNat with | 0 => 2000 | 1 => 1000 | 2 => 500 | _ => 1000
      let offers : Prop :=
        (∃ r ∈ s.requests.entries, r.sent = false) ∨ showOffered s s.showFifo ∨ s.status.slot.isSome = true
      let begins : Prop :=
        s.line.tx = .ready ∧ s.power.mode ≠ .dormant ∧ planned < quarter ∧ offers
      ∃ t, exec (.lineBusy planned) s = .next t
        ∧ (¬begins → settles { s with line := { s.line with watch := .busy, receiving := true } } t)
        ∧ (begins →
            t.line.tx = .sending ∧ t.line.watch = .busy ∧ t.line.receiving = false
              ∧ t.line.attempt.isSome = true
              ∧ (s.line.receiving = false →
                settles { s with line := { s.line with watch := .idle, receiving := false } } t)
              ∧ (s.line.receiving = true →
                settles
                  (setFlag .lineCheckError
                    { s with line := { s.line with watch := .idle, receiving := false } }) t)
              ∧ ∀ r, s.requests.entries.find? (fun q => !q.sent) = some r → s.pointer = .req →
                t.line.attempt = some { item := .req r.tag, frame := reqFrame s r }))

/-! ## Status -/

/-- R191, R192: an occurrence sets its flag and no other; a flag of the mask that passes from clear to set in
RUNNING fills an empty slot with an alert, or sets the pending mark while the hold-off runs, which is up to
and at its deadline until the deadline has its effect (R193); at address 0 no alert is made. -/
def Obligations.FlagsAreSetAndAlerted : Prop :=
  ∀ (s : State) (f : Flag),
    (∀ g : Flag, hasFlag (setFlag f s).status.flags g = (hasFlag s.status.flags g || (g == f : Bool)))
    ∧ (∀ a, s.line.attempt = some a → a.item = .stat →
        hasFlag (setFlag f s).status.recurred f = true
          ∧ ∀ g, g ≠ f → hasFlag (setFlag f s).status.recurred g = hasFlag s.status.recurred g)
    ∧ ((∀ a, s.line.attempt = some a → a.item ≠ .stat) →
        (setFlag f s).status.recurred = s.status.recurred)
    ∧ (setFlag f s).status.captured = s.status.captured
    ∧ (setFlag f s).status.holdOff = s.status.holdOff
    ∧ setFlag f s = { s with status := (setFlag f s).status }
    ∧ (hasFlag s.status.flags f = true ∨ s.start.stage ≠ .running ∨ s.start.address = 0
        ∨ hasFlag s.cfg.alertMask f = false ∨ s.status.slot.isSome = true →
        (setFlag f s).status.slot = s.status.slot
          ∧ (setFlag f s).status.alertPending = s.status.alertPending)
    ∧ (s.start.stage = .running → s.start.address ≠ 0 → hasFlag s.status.flags f = false →
        hasFlag s.cfg.alertMask f = true → s.status.slot = none →
        (s.status.holdOff = none ∨ (∃ d, s.status.holdOff = some d ∧ d < s.now) →
          (setFlag f s).status.slot = some .alert
            ∧ (setFlag f s).status.alertPending = s.status.alertPending)
          ∧ ((∃ d, s.status.holdOff = some d ∧ s.now ≤ d) →
              (setFlag f s).status.slot = none ∧ (setFlag f s).status.alertPending = true))

/-- QUERY STATUS (R189, R194): a STAT is put in an empty slot, marked solicited; a full slot, address 0,
and a station in DRAINING or DORMANT leave everything as it is; an action that names none is discarded
with LINE_CHECK_ERROR (that this command takes such a QUERY is the model's choice, assumption 3).
ALERT_HOLD_OFF_DEADLINE (R192): a pending alert is queued in an empty slot, and the mark is cleared. That
a QUERY is ignored in DRAINING and DORMANT whatever its action is the model's reading (assumption 11). -/
def Obligations.StatSlotIsFilledByQueryAndHoldOff : Prop :=
  (∀ (s : State) (e : RxEntry) (rest : List RxEntry),
    running s = true → s.rx.entries = e :: rest → e.kind = .query → byteAt e.payload 1 ≠ 2 →
    ∃ t, exec .queryStatus s = .next t
      ∧ (byteAt e.payload 1 = 1 → awake s.power.mode = true → s.start.address ≠ 0 →
          s.status.slot = none →
        settles { headTaken s rest with status := { s.status with slot := some .solicited } } t)
      ∧ (byteAt e.payload 1 = 1 →
          awake s.power.mode = false ∨ s.start.address = 0 ∨ s.status.slot.isSome = true →
        settles (headTaken s rest) t)
      ∧ (byteAt e.payload 1 ≠ 1 → awake s.power.mode = true →
        settles (setFlag .lineCheckError (headTaken s rest)) t)
      ∧ (byteAt e.payload 1 ≠ 1 → awake s.power.mode = false → settles (headTaken s rest) t))
  ∧ ∀ (s : State) (d : Nat), s.status.holdOff = some d → d ≤ s.now →
    ∃ t, exec .alertHoldOffDeadline s = .next t
      ∧ settles
          { s with
            status :=
              { s.status with
                holdOff := none
                alertPending := false
                slot :=
                  if s.status.slot = none ∧ s.status.alertPending = true then some .alert
                  else s.status.slot } } t

/-! ## Cars -/

/-- R34 to R39: a CAR taken outside DORMANT. A failed field check sets LINE_CHECK_ERROR and enters nothing; a
report as old as the lost timeout is dropped with no flag; a younger one is written and evaluated, and its
car's lanterns and the phases of its assignments are tested as the record then stands (R49, R72, R125);
LIVE while younger than the stale timeout, STALE otherwise, with the tests of that change; a full table sets
CAR_TABLE_FULL. An entered report of a pinned car that runs is an activity. R47, R177, R178: one taken in
DORMANT is not entered; of a pinned car that runs or whose door is OPENING it wakes a sleeping station to
DIM. An activity leaves the station DRAINING at the instant at which the idle deadline drained it (R180). That a
report dropped for its age still wakes, and that at any other instant one which runs wakes a DRAINING station,
are the model's readings (assumptions 10 and 31), as is that in DORMANT a failed check of any car sets the flag
(33); a wake leaves the entry IDLE with no prompt (R103); lanterns are tested in the entries' order
(assumption 6). -/
def Obligations.CarReportsAreCheckedAgedAndEntered : Prop :=
  ∀ (s : State) (e : RxEntry) (rest : List RxEntry), headIs s e rest → e.kind = .car →
    let b := byteAt e.payload
    let k := carKeyOf (b 0)
    let n := s.cfg.floors.length
    let v : Int := (wordAt e.payload 5 % 32768 : Nat)
    (reportOf n e = none ↔
      (b 1 ≠ 1 ∧ b 1 ≠ 2) ∨ 3 < b 8 ∨ 2 < b 9 ∨ 3 < b 10 ∨ 5 < b 11 ∨ 1048575 < tripleAt e.payload 2)
    ∧ (∀ r, reportOf n e = some r →
        r.deckCount = b 1 ∧ r.height = tripleAt e.payload 2 ∧ r.stamp = e.stamp
        ∧ r.speed = max (-12000) (min 12000 (if v < 16384 then v else v - 32768))
        ∧ r.nextStop = (if 32768 ≤ wordAt e.payload 5 ∧ b 7 < n then some (b 7) else none)
        ∧ b 8 = (match r.motion with | .parked => 0 | .runUp => 1 | .runDown => 2 | .levelling => 3)
        ∧ b 9 = (match r.committed with | none => 0 | some .up => 1 | some .down => 2)
        ∧ b 10 = (match r.door with | .closed => 0 | .opening => 1 | .opened => 2 | .closing => 3)
        ∧ b 11 =
            (match r.service with
              | .normal => 0
              | .independent => 1
              | .fireRecall => 2
              | .fireService => 3
              | .inspection => 4
              | .outOfService => 5))
    ∧ ∃ t, exec .car s = .next t
      ∧ (reportOf n e = none → settles (setFlag .lineCheckError (headTaken s rest)) t)
      ∧ ∀ r, reportOf n e = some r →
        let pinned : Bool := s.cars.any fun c => c.key == k && c.pinned
        let moves : Bool := pinned && (r.motion == .runUp || r.motion == .runDown)
        let h : State :=
          if asleep s.power.mode = true ∧ (moves || (pinned && r.door == .opening)) = true
              ∧ ¬(drainsIdle s ∧ moves = true ∧ s.now - r.stamp < s.cfg.lostTimeout) then
            awakened .dim (headTaken s rest)
          else headTaken s rest
        let written (c : CarRecord) : CarRecord :=
          { evaluate s.cfg s.now { c with report := some r } with
            freshness := .live
            staleAt := some (r.stamp + s.cfg.staleTimeout)
            lostAt := some (r.stamp + s.cfg.lostTimeout) }
        let tested (c : CarRecord) (x : State) : State :=
          { x with
            lanterns := x.lanterns.map fun l =>
              if l.entry.car = k then (testLantern x.cfg x.power.mode x.now c x.chime l).1 else l
            chime := x.lanterns.foldl
              (fun q l => if l.entry.car = k then (testLantern x.cfg x.power.mode x.now c q l).2 else q)
              x.chime }
        let entered (c : CarRecord) (cars : List CarRecord) : State :=
          let live := phaseTests (fun p => p.car == k) (tested c { h with cars := cars })
          let active : State :=
            if moves then { live with power := { h.power with idleDeadline := idleAnew s } } else live
          if s.now - r.stamp < s.cfg.staleTimeout then active
          else
            tested { c with freshness := .stale }
              { active with
                cars := cars.map fun x => if x.key = k then { x with freshness := .stale } else x }
        (s.power.mode = .dormant ∨ s.cfg.lostTimeout ≤ s.now - r.stamp → settles h t)
        ∧ (s.power.mode ≠ .dormant → s.now - r.stamp < s.cfg.lostTimeout →
          (∀ c, findCar s.cars k = some c →
            settles (entered (written c) (s.cars.map fun x => if x.key = k then written x else x)) t)
          ∧ (findCar s.cars k = none → s.cars.length < 32 →
            settles (entered (written (newCar k)) (s.cars ++ [written (newCar k)])) t)
          ∧ (findCar s.cars k = none → 32 ≤ s.cars.length → settles (setFlag .carTableFull h) t))

/-- R44: the normalised stop list: ascending, each index once and below N, at most 16, and an index sent
below N that is left out is above 16 kept ones. Normalisation sets no flag, and an empty list replaces
the old one like any other. -/
def Obligations.StopListsAreNormalised : Prop :=
  (∀ (n : Nat) (p : List Byte),
    let sent := (p.drop 1).map BitVec.toNat
    ascending (stopListOf n p) ∧ (stopListOf n p).length ≤ 16
      ∧ (∀ f ∈ stopListOf n p, f ∈ sent ∧ f < n)
      ∧ ∀ f ∈ sent, f < n → f ∉ stopListOf n p →
          (stopListOf n p).length = 16 ∧ ∀ g ∈ stopListOf n p, g < f)
  ∧ ∀ (s : State) (e : RxEntry) (rest : List RxEntry) (c : CarRecord),
    headIs s e rest → e.kind = .stops → drainHolds s → c ∈ s.cars →
    c.key = carKeyOf (byteAt e.payload 0) → c.freshness = .live ∨ c.freshness = .stale →
    ∃ t, exec .stops s = .next t ∧ t.status.flags = s.status.flags
      ∧ { c with stops := stopListOf s.cfg.floors.length e.payload } ∈ t.cars

/-- R45, R46: a STOPS replaces the list of a LIVE or STALE record and nothing else; for no record, or one
AWAITING or LOST, it is ignored with no flag. -/
def Obligations.StopsReplaceTheStopList : Prop :=
  ∀ (s : State) (e : RxEntry) (rest : List RxEntry), headIs s e rest → e.kind = .stops →
    ∃ t, exec .stops s = .next t
      ∧ settles
          { headTaken s rest with
            cars := s.cars.map fun c =>
              if c.key = carKeyOf (byteAt e.payload 0) ∧ (c.freshness = .live ∨ c.freshness = .stale)
              then { c with stops := stopListOf s.cfg.floors.length e.payload } else c } t

/-- R49: at a whole multiple of 10 ms every LIVE record is evaluated and no other, and the lanterns of its car
(R72) and the phases of every assignment (R125, R126) are tested against the records as they then stand. The
lanterns are tested in the entries' order (assumption 6). -/
def Obligations.TrackingInstantEvaluatesLiveRecords : Prop :=
  ∀ s : State, s.now % 10 = 0 → serving s = true → (s.cars.map CarRecord.key).Nodup →
    let cars := s.cars.map fun c => if c.freshness = .live then evaluate s.cfg s.now c else c
    let liveOf (k : CarKey) : Option CarRecord :=
      cars.find? fun c => c.key == k && c.freshness == .live
    let test (q : Chime) (l : Lantern) : Lantern × Chime :=
      match liveOf l.entry.car with
      | some c => testLantern s.cfg s.power.mode s.now c q l
      | none => (l, q)
    ∃ t, exec .trackingInstant s = .next t
      ∧ settles
          (phaseTests (fun _ => true)
            { s with
              cars := cars
              lanterns := s.lanterns.map fun l => (test s.chime l).1
              chime := s.lanterns.foldl (fun q l => (test q l).2) s.chime }) t
      ∧ (drainHolds s →
        t.cars = cars ∧ t.lanterns = (s.lanterns.map fun l => (test s.chime l).1)
          ∧ t.now = s.now ∧ t.rx = s.rx ∧ t.requests = s.requests ∧ t.releases = s.releases
          ∧ t.status.flags = s.status.flags ∧ t.power = s.power ∧ t.recallLatch = s.recallLatch
          ∧ t.notices = s.notices ∧ t.entry = s.entry ∧ t.keypad = s.keypad
          ∧ (∀ q ∈ t.prompts, ∃ p ∈ s.prompts, p.key = q.key ∧ p.dest = q.dest ∧ p.car = q.car
              ∧ p.board = q.board ∧ p.claimant = q.claimant ∧ p.claimTime = q.claimTime
              ∧ p.validUntil = q.validUntil
              ∧ (p.phase = .waiting → (q.phase = .boarding ↔ boardsNow { s with cars := cars } p.car p.deck))
              ∧ (p.phase = .boarding → q.phase = .boarding ∧ ¬runsNow { s with cars := cars } p.car))
          ∧ ∀ p ∈ s.prompts, ¬(p.phase = .boarding ∧ runsNow { s with cars := cars } p.car) →
              p.key ∈ t.prompts.map PromptRecord.key)

/-- R41, R66, R72, R77: at its stale deadline a LIVE record becomes STALE with everything else in it held,
and every lantern of the car goes DARK, its waiting chime entry gone with it (R82). R42, R68: at its lost
deadline a record that is not pinned leaves the table; a pinned one stays, LOST, with its tracker fields and
next stop absent and its stop list empty, and its lanterns are DARK. -/
def Obligations.CarDeadlinesHoldOrGiveUpTheRecord : Prop :=
  ∀ (s : State) (k : CarKey) (c : CarRecord) (d : Nat),
    (s.cars.map CarRecord.key).Nodup → c ∈ s.cars → c.key = k → d ≤ s.now →
    let darkened (cars : List CarRecord) : State :=
      { s with
        cars := cars
        lanterns := s.lanterns.map fun l =>
          if l.entry.car = k ∧ l.lit = true then { l with lit := false, doorSeen := false } else l
        chime :=
          { s.chime with
            queue := s.chime.queue.filter fun e =>
              !(s.lanterns.any fun l => l.entry.car == k && l.lit && l.entry.output == e.output) } }
    (c.freshness = .live → c.staleAt = some d →
      ∃ t, exec (.staleDeadline k) s = .next t
        ∧ settles (darkened (s.cars.map fun x => if x.key = k then { x with freshness := .stale } else x)) t
        ∧ (drainHolds s → ∀ l ∈ t.lanterns, l.entry.car = k → l.lit = false))
    ∧ (c.freshness = .live ∨ c.freshness = .stale → c.lostAt = some d →
      ∃ t, exec (.lostDeadline k) s = .next t
        ∧ (c.pinned = false → settles { s with cars := s.cars.filter fun x => x.key != k } t)
        ∧ (c.pinned = true →
          settles
            (darkened
              (s.cars.map fun x =>
                if x.key = k then
                  { x with
                    freshness := .lost
                    staleAt := none
                    lostAt := none
                    floor := none
                    estimate := none
                    shown := []
                    stops := []
                    report := x.report.map fun r => { r with nextStop := none } }
                else x)) t))

/-! ## Position tracking -/

/-- R51, R52: the displacement is trunc(v × e / 1000) while the car runs, 0 otherwise, and keeps the sign of v.
R53: the next-stop clamp by its three cases. R54: the map clamp; the estimate lies within the map, and at most
4,800 mm from the map-clamped reported height. -/
def Obligations.EstimatesStayWithinTheHorizon : Prop :=
  ∀ (c : Settings) (now : Nat) (r : Report), -12000 ≤ r.speed → r.speed ≤ 12000 →
    let x : Int := (r.height : Int) + displacement now r
    let y : Int := nextStopClamp c r x
    let top : Nat := c.floors.length - 1
    (r.motion = .runUp ∨ r.motion = .runDown →
      displacement now r = (r.speed * (min (now - r.stamp) 400 : Nat)).tdiv 1000)
    ∧ (r.motion = .parked ∨ r.motion = .levelling → displacement now r = 0)
    ∧ (displacement now r).natAbs ≤ 4800
    ∧ (0 ≤ r.speed → 0 ≤ displacement now r) ∧ (r.speed ≤ 0 → displacement now r ≤ 0)
    ∧ (∀ f z, c.floors[f]? = some z → levelOf c f = z.level)
    ∧ (∀ f, r.nextStop = some f →
        (r.motion = .runUp → r.height ≤ levelOf c f → y = min x (levelOf c f))
        ∧ (r.motion = .runDown → levelOf c f ≤ r.height → y = max x (levelOf c f))
        ∧ ((r.motion = .runUp ∧ levelOf c f < r.height) ∨ (r.motion = .runDown ∧ r.height < levelOf c f) →
            y = x))
    ∧ (r.nextStop = none ∨ r.motion = .parked ∨ r.motion = .levelling → y = x)
    ∧ (min x r.height ≤ y ∧ y ≤ max x r.height)
    ∧ estimateOf c now r = max (levelOf c 0) (min y (levelOf c top))
    ∧ (levelOf c 0 ≤ levelOf c top →
      estimateOf c now r = mapClamp c y
        ∧ levelOf c 0 ≤ estimateOf c now r ∧ estimateOf c now r ≤ levelOf c top
        ∧ (estimateOf c now r - mapClamp c r.height).natAbs ≤ 4800)

/-- R58: up steps end at the larger of F_0 and count(x − H), down steps at the smaller of F_0 and
count(x + H), for strictly increasing switch points; one step needs the estimate at sw + H, or below
sw − H. -/
def Obligations.StepsEndAtTheCountOfSwitchPoints : Prop :=
  ∀ (c : Settings) (x : Int) (f : Nat),
    ascending c.switchPoints → f ≤ c.switchPoints.length →
    upSteps c.switchPoints c.hysteresis x (c.switchPoints.length + 1) f
        = max f (countAt c (x - c.hysteresis))
      ∧ downSteps c.switchPoints c.hysteresis x f = min f (countAt c (x + c.hysteresis))
      ∧ (∀ sw, c.switchPoints[f]? = some sw →
          ((sw : Int) + c.hysteresis ≤ x ↔
            f < upSteps c.switchPoints c.hysteresis x (c.switchPoints.length + 1) f))
      ∧ (∀ sw, f ≠ 0 → c.switchPoints[f - 1]? = some sw →
          (x < (sw : Int) - c.hysteresis ↔ downSteps c.switchPoints c.hysteresis x f < f))

/-- What an evaluation writes: the estimate, the indicated floor, and the displayed floors. R56: an absent floor
becomes the count of switch points at or below the estimate. R57 to R60: one that is present moves by the
motion: up steps, down steps, the floor of the nearest level with ties to the lower index, the next stop, or
both steps. R63: the deck floors. R64: the table of the displayed floor, one for each region that shows the
car. R62: while the motion is RUN_UP at two successive evaluations the indicated floor does not decrease, and
while it is RUN_DOWN it does not increase; and on a map of R20 an evaluation made again at one instant with
unchanged fields gives the results already held, when the indicated floor was present (for one that was absent
see assumption 27). -/
def Obligations.IndicationsAreStable : Prop :=
  ∀ (c : Settings) (now : Nat) (rec : CarRecord),
    let next := evaluate c now rec
    let count (y : Int) : Nat := (c.switchPoints.filter fun p : Nat => decide ((p : Int) ≤ y)).length
    let shows (f : Nat) : Prop := ∃ x, c.floors[f]? = some x ∧ x.displayable = true
    (rec.report = none → next = rec ∧ ∀ d, deckFloor c rec d = none)
    ∧ (∀ r : Report, rec.report = some r →
      let x : Int := estimateOf c now r
      next = { rec with estimate := some x, floor := next.floor, shown := next.shown }
      ∧ (rec.floor = none → next.floor = some (count x))
      ∧ (∀ f, rec.floor = some f →
        (ascending c.switchPoints → c.switchPoints.length + 1 = c.floors.length → f < c.floors.length →
          let low := count (x - c.hysteresis)
          let high := count (x + c.hysteresis)
          (r.motion = .runUp → next.floor = some (max f low))
          ∧ (r.motion = .runDown → next.floor = some (min f high))
          ∧ (r.motion = .levelling → r.nextStop = none →
              next.floor = some (if f < low then low else if high < f then high else f)))
        ∧ (∀ stop, r.motion = .levelling → r.nextStop = some stop → next.floor = some stop)
        ∧ (r.motion = .parked → c.floors ≠ [] →
          ∃ g, next.floor = some g ∧ g < c.floors.length
            ∧ ∀ i, i < c.floors.length →
              (levelOf c g - x).natAbs ≤ (levelOf c i - x).natAbs
                ∧ ((levelOf c i - x).natAbs = (levelOf c g - x).natAbs → g ≤ i)))
      ∧ (deckFloor c next .lower = next.floor)
      ∧ (∀ f, next.floor = some f →
          (r.deckCount = 2 ∧ f + 1 < c.floors.length → deckFloor c next .upper = some (f + 1))
          ∧ (¬(r.deckCount = 2 ∧ f + 1 < c.floors.length) → deckFloor c next .upper = none))
      ∧ next.shown.length = c.regions.length
      ∧ ∀ (i : Nat) (g : Region) (deck : Deck), c.regions[i]? = some g → g.kind = .position rec.key deck →
        let held : Option Nat := (rec.shown[i]?).getD none
        let displayed : Option Nat := (next.shown[i]?).getD none
        (deckFloor c next deck = none → displayed = none)
        ∧ ∀ f, deckFloor c next deck = some f →
          (shows f → displayed = some f)
          ∧ (¬shows f →
            (∀ d, held = some d → displayed = some d)
            ∧ (held = none →
              ((∃ d, d < f ∧ shows d) →
                ∃ d, displayed = some d ∧ d < f ∧ shows d ∧ ∀ d', d' < f → shows d' → d' ≤ d)
              ∧ ((∀ d, d < f → ¬shows d) → (∃ d, shows d) →
                ∃ d, displayed = some d ∧ f < d ∧ shows d ∧ ∀ d', f < d' → shows d' → d ≤ d'))))
    ∧ (∀ (r : Report) (f : Nat), rec.report = some r → rec.floor = some f → f < c.floors.length →
      ∃ g, next.floor = some g ∧ (r.motion = .runUp → f ≤ g) ∧ (r.motion = .runDown → g ≤ f))
    ∧ (mapSafe c → ascending c.switchPoints → rec.floor.isSome = true → recordSafe c rec →
      evaluate c now next = next)

/-! ## Lanterns and chime -/

/-- R73 to R77: a test of one lantern, read for its deck. A DARK one lights exactly on the conditions of R74:
its stop, target level, distance and motion, or its deck floor, are those of R73. It then has its door-seen mark
as the door stands, and asks for its chime. A LIT one darkens exactly on the conditions of R77, and loses its
mark and its waiting chime entry; else its mark is set by the door of a LIVE record. -/
def Obligations.LanternTestsFollowTheirConditions : Prop :=
  ∀ (cfg : Settings) (mode : PowerMode) (now : Nat) (c : CarRecord) (r : Report) (q : Chime) (l : Lantern),
    c.report = some r →
    let onDeck (f : Option Nat) : Option Nat :=
      match l.entry.deck, f with
      | .lower, f => f
      | .upper, some f => if r.deckCount = 2 ∧ f + 1 < cfg.floors.length then some (f + 1) else none
      | .upper, none => none
    let stop := onDeck r.nextStop
    let floor := onDeck c.floor
    let level (f : Nat) : Int := ((cfg.floors[f]?).map fun z => (z.level : Int)).getD 0
    let target : Int :=
      match l.entry.deck with | .lower => level l.entry.landing | .upper => level (l.entry.landing - 1)
    let toward (x : Int) : Prop :=
      (r.motion = .runUp ∧ x ≤ target) ∨ (r.motion = .runDown ∧ target ≤ x) ∨ r.motion = .levelling
    let doorOpen : Bool := r.door == .opening || r.door == .opened
    let res := testLantern cfg mode now c q l
    (l.lit = false →
      (res.1.lit = true ↔
        c.freshness = .live ∧ r.service = .normal ∧ mode ≠ .dormant
          ∧ r.committed = some l.entry.direction
          ∧ ((stop = some l.entry.landing
                ∧ ∃ x, c.estimate = some x ∧ toward x ∧ (target - x).natAbs ≤ cfg.lanternLead)
            ∨ ((r.motion = .parked ∨ r.motion = .levelling) ∧ floor = some l.entry.landing
                ∧ doorOpen = true)))
      ∧ (res.1.lit = true →
          res.1 = { l with lit := true, doorSeen := doorOpen }
            ∧ res.2 = requestChime now
                { output := l.entry.output
                  strokes := match l.entry.direction with | .up => 1 | .down => 2 } q)
      ∧ (res.1.lit = false → res = (l, q)))
    ∧ (l.lit = true →
      (res.1.lit = false ↔
        (r.door = .closed ∧ l.doorSeen = true) ∨ c.freshness ≠ .live ∨ r.service ≠ .normal
          ∨ r.committed ≠ some l.entry.direction
          ∨ (stop ≠ some l.entry.landing ∧ floor ≠ some l.entry.landing))
      ∧ (res.1.lit = false →
          res.1 = { l with lit := false, doorSeen := false }
            ∧ res.2 = { q with queue := q.queue.filter fun e => e.output != l.entry.output })
      ∧ (res.1.lit = true → res = ({ l with doorSeen := l.doorSeen || doorOpen }, q)))

/-- R80: a chime request is dropped as a duplicate or at a full queue; else it joins the tail, and an IDLE
player takes it at once. R81: 300 ms of tone, 200 ms of gap, 400 ms of spacing, stroke after stroke, then
the head of the queue or IDLE. The next time runs from the instant of the command (assumption 25). -/
def Obligations.ChimeRequestsAndTimings : Prop :=
  (∀ (now : Nat) (e : ChimeEntry) (q : Chime),
    (playing q.player = some e.output ∨ e.output ∈ q.queue.map ChimeEntry.output
        ∨ 4 ≤ q.queue.length →
      requestChime now e q = q)
    ∧ (playing q.player ≠ some e.output → e.output ∉ q.queue.map ChimeEntry.output →
        q.queue.length < 4 →
        (q.player ≠ .idle → requestChime now e q = { q with queue := q.queue ++ [e] })
        ∧ (q.player = .idle → q.queue = [] →
            requestChime now e q =
              { queue := [], player := .tone e (e.strokes - 1) (now + 300) })))
  ∧ ∀ (s : State) (e : ChimeEntry) (left ends : Nat), ends ≤ s.now →
    (s.chime.player = .tone e left ends →
      ∃ t, exec .chimeToneEnd s = .next t
        ∧ settles { s with chime := { s.chime with player := .gap e left (s.now + 200) } } t)
    ∧ (s.chime.player = .gap e left ends →
      ∃ t, exec .chimeGapEnd s = .next t
        ∧ (left = 0 →
            settles { s with chime := { s.chime with player := .spacing (s.now + 400) } } t)
        ∧ (∀ n, left = n + 1 →
            settles { s with chime := { s.chime with player := .tone e n (s.now + 300) } } t))
    ∧ (s.chime.player = .spacing ends →
      ∃ t, exec .chimeSpacingEnd s = .next t
        ∧ (s.chime.queue = [] → settles { s with chime := { queue := [], player := .idle } } t)
        ∧ (∀ h q, s.chime.queue = h :: q →
            settles
              { s with
                chime := { queue := q, player := .tone h (h.strokes - 1) (s.now + 300) } } t))

/-! ## Keypad, entry and request file -/

/-- KEY_DOWN (R86, R88, R178). A key that goes DOWN alone in an OPEN scan with no other key DOWN is taken;
with another DOWN, or another at the same instant, the scan is LOCKED and nothing is taken. A key taken in
DORMANT wakes the station and is consumed, one taken in DRAINING wakes it, one taken awake is an activity.
From a wake the entry starts IDLE with no prompt (R103). The keys of one instant are one operand
(assumption 16). -/
def Obligations.KeysAreTakenOneAtATime : Prop :=
  ∀ (s : State) (keys : List Key), serving s = true →
    let fresh := goingDown keys s
    let pressed := pressKeys fresh s
    let locked : State := { pressed with keypad := { pressed.keypad with locked := true } }
    (∀ k, k ∈ fresh ↔ k ∈ keys ∧ ∃ r ∈ s.keypad.keys, r.key = k ∧ r.state = .up)
    ∧ pressed =
        { s with
          keypad :=
            { s.keypad with
              keys := s.keypad.keys.map fun r =>
                if r.key ∈ fresh then
                  { r with
                    contact := if r.reading then r.contact else true
                    reading := true
                    readingSince := if r.reading then r.readingSince else s.now
                    state := .down
                    stateSince := s.now }
                else r } }
    ∧ ∃ t, exec (.keyDown keys) s = .next t
      ∧ (fresh = [] → settles s t)
      ∧ (2 ≤ fresh.length → settles locked t)
      ∧ ∀ k, fresh = [k] →
        (s.keypad.locked = true → settles pressed t)
        ∧ (s.keypad.locked = false → (∃ r ∈ s.keypad.keys, r.state = .down) → settles locked t)
        ∧ (s.keypad.locked = false → (∀ r ∈ s.keypad.keys, r.state ≠ .down) →
          (s.power.mode = .dormant → settles (awakened .dim pressed) t)
          ∧ (s.power.mode = .draining → kioskJob s.cfg = false → settles (awakened .dim pressed) t)
          ∧ ((s.power.mode = .active ∨ s.power.mode = .dim) →
              s.recallLatch.latched = true ∨ kioskJob s.cfg = false →
              settles { pressed with power := stirred s } t))

/-- R89 to R92: a key the entry controller acts on removes the current prompt. A character starts or
extends the buffer, which keeps its last three; the assist key makes the class ACCESSIBLE; CLR empties the
buffer, or with an empty one ends the entry; OK in IDLE resolves nothing. A key that wakes a DRAINING station
finds the entry IDLE, as the wake leaves it (R88, R103). -/
def Obligations.KeysEditTheEntry : Prop :=
  ∀ (s : State) (k : Key), takesKey s k → entryListens s →
    let told := keyTaken s k
    let e : EntryController := if s.power.mode = .draining then EntryController.idle else s.entry
    let typed (c : Nat) : List Nat :=
      if e.buffer.length < 3 then e.buffer ++ [c]
      else e.buffer.drop (e.buffer.length - 2) ++ [c]
    ∃ t, exec (.keyDown [k]) s = .next t
      ∧ (∀ c, keyChar k = some c →
        settles
          { told with
            entry :=
              { entering := true
                buffer := if e.entering then typed c else [c]
                cls := if e.entering then e.cls else .standard
                deadline := some (s.now + 5000)
                prompt := none } } t)
      ∧ (k = .assist →
        settles
          { told with
            entry :=
              { entering := true
                buffer := if e.entering then e.buffer else []
                cls := .accessible
                deadline := some (s.now + 5000)
                prompt := none } } t)
      ∧ (k = .clr → e.entering = true → e.buffer ≠ [] →
        settles
          { told with
            entry :=
              { e with buffer := [], deadline := some (s.now + 5000), prompt := none } } t)
      ∧ (k = .clr → e.entering = true → e.buffer = [] →
        settles { told with entry := EntryController.idle } t)
      ∧ (k = .clr ∨ k = .ok → e.entering = false →
        settles { told with entry := { e with prompt := none } } t)

/-- R22, R94 to R96, R104: an OK in ENTERING. The text that matches no label, the home floor, and a floor
not served or not displayable give their prompts for 2,000 ms. Any other floor merges into the Queued
entries of its class, finds the file full (BUSY for 1,500 ms), or makes a new entry with the counter's tag;
WAIT is shown for the request timeout. An OK that wakes a DRAINING station finds the entry IDLE and resolves
nothing (R88, R103). -/
def Obligations.OkResolvesTheEntry : Prop :=
  ∀ s : State, takesKey s .ok → entryListens s → s.entry.entering = true →
    let told (content : PromptContent) (time : Nat) : State :=
      { keyTaken s .ok with
        entry :=
          { EntryController.idle with prompt := some { content := content, ends := s.now + time } } }
    let same (f : Nat) (r : Request) : Bool := !r.sent && r.dest == f && r.cls == s.entry.cls
    ∃ t, exec (.keyDown [.ok]) s = .next t
      ∧ (s.power.mode = .draining → settles (keyTaken s .ok) t)
      ∧ (s.power.mode ≠ .draining → lookupText s.cfg s.entry.buffer = none →
        (∀ f, f < s.cfg.floors.length → labelOf s.cfg f ≠ s.entry.buffer)
          ∧ settles (told (.invalid s.entry.buffer) 2000) t)
      ∧ ∀ f, s.power.mode ≠ .draining → lookupText s.cfg s.entry.buffer = some f →
        f < s.cfg.floors.length ∧ labelOf s.cfg f = s.entry.buffer
        ∧ (s.cfg.homeFloor = some f → settles (told (.notHere f) 2000) t)
        ∧ (s.cfg.homeFloor ≠ some f →
            servedAt s.cfg f &&& s.cfg.groups = 0 ∨ isDisplayable s.cfg f = false →
            settles (told (.notServed f) 2000) t)
        ∧ (s.cfg.homeFloor ≠ some f → servedAt s.cfg f &&& s.cfg.groups ≠ 0 →
            isDisplayable s.cfg f = true →
          (s.requests.entries.any (same f) = true →
            settles
              { told (.wait f) s.cfg.requestTimeout with
                requests :=
                  { s.requests with
                    entries := s.requests.entries.map fun r =>
                      if same f r then { r with count := min (r.count + 1) 15 } else r } } t)
          ∧ (s.requests.entries.any (same f) = false → 4 ≤ s.requests.entries.length →
            settles (told (.busy f) 1500) t)
          ∧ (s.requests.entries.any (same f) = false → s.requests.entries.length < 4 →
            settles
              { told (.wait f) s.cfg.requestTimeout with
                requests :=
                  { entries :=
                      s.requests.entries
                        ++ [{ tag := s.requests.tagCounter, dest := f, cls := s.entry.cls,
                              count := 1, sent := false, created := s.now }]
                    tagCounter :=
                      if s.requests.tagCounter = 65535 then 1 else s.requests.tagCounter + 1 } }
              t))

/-- KEY_UP (R85, R86): the key is UP from now on, its contact read open, and the lock ends when no key is DOWN; a
contact that the sampler has read open stays where it stands, and another opens with the command (assumption 16).
KEY_STUCK (R87): a key DOWN for 10,000 ms is STUCK and KEY_STUCK set; STUCK keys do not count as DOWN. -/
def Obligations.KeysGoUpOrStick : Prop :=
  ∀ (s : State) (k : Key), serving s = true →
    (keyState s k ≠ .up →
      ∃ t, exec (.keyUp k) s = .next t ∧ settles { s with keypad := t.keypad } t
        ∧ t.keypad.keys =
            (s.keypad.keys.map fun r =>
              if r.key = k ∧ r.state ≠ .up then
                { r with
                  contact := if r.reading then false else r.contact
                  reading := false
                  readingSince := if r.reading then s.now else r.readingSince
                  state := .up
                  stateSince := s.now }
              else r)
        ∧ (t.keypad.locked = true ↔
            s.keypad.locked = true ∧ ∃ r ∈ t.keypad.keys, r.state = .down))
    ∧ (∀ r, (s.keypad.keys.map KeyRecord.key).Nodup → r ∈ s.keypad.keys → r.key = k →
        r.state = .down → r.stateSince + 10000 ≤ s.now →
      ∃ t, exec (.keyStuck k) s = .next t
        ∧ settles (setFlag .keyStuck { s with keypad := t.keypad }) t
        ∧ t.keypad.keys =
            (s.keypad.keys.map fun q =>
              if q.key = k then { q with state := .stuck, stateSince := s.now } else q)
        ∧ (t.keypad.locked = true ↔
            s.keypad.locked = true ∧ ∃ q ∈ t.keypad.keys, q.state = .down))

/-- ENTRY_DEADLINE (R93): the entry is IDLE, with no flag and the prompt slot as it stands. PROMPT_DEADLINE
(R104): the slot is emptied. REQUEST_TIMEOUT (R101): the entry leaves the file, TRY_AGAIN is shown for 3,000 ms
and the flag REQUEST_TIMEOUT is set. -/
def Obligations.KioskDeadlinesPass : Prop :=
  ∀ s : State,
    (∀ d, s.entry.entering = true → s.entry.deadline = some d → d ≤ s.now →
      ∃ t, exec .entryDeadline s = .next t
        ∧ settles { s with entry := { EntryController.idle with prompt := s.entry.prompt } } t)
    ∧ (∀ p, s.entry.prompt = some p → p.ends ≤ s.now →
      ∃ t, exec .promptDeadline s = .next t
        ∧ settles { s with entry := { s.entry with prompt := none } } t)
    ∧ (∀ r, (s.requests.entries.map Request.tag).Nodup → r ∈ s.requests.entries →
        r.created + s.cfg.requestTimeout ≤ s.now →
      ∃ t, exec (.requestTimeout r.tag) s = .next t
        ∧ settles
            (setFlag .requestTimeout
              { s with
                entry :=
                  { s.entry with
                    prompt := some { content := .tryAgain r.dest, ends := s.now + 3000 } }
                requests :=
                  { s.requests with
                    entries := s.requests.entries.filter fun q => q.tag != r.tag } }) t)

/-! ## Prompt table and claims -/

/-- ASSIGN (R98, R99, R110, R149): the field check, in every power state (assumption 30); not acted on while the
latch is SET, nor in DRAINING and DORMANT (R170, R177); an answer to a Sent entry of this kiosk takes the entry
from the file and shows the answer or the refusal for the reply time. An assigned answer makes the local part of
the key's record present, or brings a new record with it, evicting at a full table (R111); at a board station
the same ASSIGN adds Pending and renews or reassigns the record (R108, R109); then the phase test is made. What
is no answer, where no board side acts, renews or drops the local part of a record this kiosk holds. A kiosk
address of 128..255 passes the check (assumption 28). An answer whose key stands in the release buffer still
brings the local part (assumption 22). -/
def Obligations.AssignIsCheckedAndAnswered : Prop :=
  ∀ (s : State) (e : RxEntry) (rest : List RxEntry), headIs s e rest → e.kind = .assign →
    let b := byteAt e.payload
    let n := s.cfg.floors.length
    (assignOf n e.payload = none ↔
      2 < b 4 ∨ 1 < b 6 ∨ wordAt e.payload 2 = 0 ∨ b 1 = 0 ∨ b 1 = 127 ∨ n ≤ b 5 ∨ (b 4 = 0 ∧ 2 < b 8))
    ∧ (∀ a, assignOf n e.payload = some a →
        a.key = { kiosk := b 1, tag := wordAt e.payload 2 } ∧ a.dest = b 5 ∧ a.validity = b 9
        ∧ a.car = carKeyOf (b 7)
        ∧ b 4 = (match a.result with | .assigned => 0 | .notServed => 1 | .unavailable => 2)
        ∧ b 6 = (match a.cls with | .standard => 0 | .accessible => 1)
        ∧ (a.result = .assigned →
            b 8 = (match a.deck with | none => 0 | some .lower => 1 | some .upper => 2)))
    ∧ ∃ t, exec .assign s = .next t
      ∧ (assignOf n e.payload = none → settles (setFlag .lineCheckError (headTaken s rest)) t)
      ∧ ∀ a, assignOf n e.payload = some a →
        let h := headTaken s rest
        let isKey (q : PromptRecord) : Bool := q.key == a.key
        let until_ : Nat :=
          s.now + (if a.validity = 0 then s.cfg.defaultValidity else a.validity) * 1000
        let shownUntil : Nat := s.now + s.cfg.replyTime
        let answers : Prop :=
          a.key.kiosk = s.start.address ∧ ∃ r ∈ s.requests.entries, r.sent = true ∧ r.tag = a.key.tag
        let boards : Prop := boardStation s.cfg = true ∧ ∀ r ∈ s.releases, r.key ≠ a.key
        let acted : Prop := s.recallLatch.latched = false ∧ (s.power.mode = .active ∨ s.power.mode = .dim)
        let answered (content : PromptContent) : State :=
          { h with
            requests :=
              { s.requests with
                entries := s.requests.entries.filter fun r => !(r.sent && r.tag == a.key.tag) }
            entry := { s.entry with prompt := some { content := content, ends := shownUntil } }
            power := stirred s }
        let told := answered (.answer a.key a.dest a.car a.deck a.cls)
        let made (board : BoardState) : PromptRecord :=
          { key := a.key
            dest := a.dest
            car := a.car
            deck := a.deck
            cls := a.cls
            phase := .waiting
            validUntil := until_
            localUntil := some shownUntil
            board := board
            holdoff := none
            takeQueued := false
            claimant := none
            reassertDone := false
            claimTime := none
            claimOrder := 0 }
        (s.recallLatch.latched = true ∨ s.power.mode = .draining ∨ s.power.mode = .dormant → settles h t)
        ∧ (acted → answers →
          (a.result = .notServed → settles (answered (.refused a.dest .notServed)) t)
          ∧ (a.result = .unavailable → settles (answered (.refused a.dest .unavailable)) t)
          ∧ (a.result = .assigned → findPrompt s.prompts a.key = none →
            (¬boards → settles (phaseTests isKey (joinPrompt (made .none) told)) t)
            ∧ (boards → settles (phaseTests isKey (joinPrompt (made .pending) told)) t)
            ∧ (s.prompts.length < 24 →
              ∃ ph,
                (ph = .boarding ↔ boardsNow s a.car a.deck)
                ∧ (¬boards →
                    settles { told with prompts := s.prompts ++ [{ made .none with phase := ph }] } t)
                ∧ (boards →
                    settles { told with prompts := s.prompts ++ [{ made .pending with phase := ph }] } t)))
          ∧ (∀ p, a.result = .assigned → findPrompt s.prompts a.key = some p →
            let put (q : PromptRecord) : State :=
              phaseTests isKey
                { told with prompts := s.prompts.map fun x => if x.key = a.key then q else x }
            let board : BoardState := if p.board = .none then .pending else p.board
            ((s.prompts.map PromptRecord.key).Nodup → ¬boards →
              settles (put { p with localUntil := some shownUntil }) t)
            ∧ (boards → p.car = a.car ∧ p.deck = a.deck →
                settles
                  (put { p with localUntil := some shownUntil, board := board, validUntil := until_ }) t)
            ∧ (boards → ¬(p.car = a.car ∧ p.deck = a.deck) →
                settles
                  (put
                    { p with
                      localUntil := some shownUntil
                      board := board
                      validUntil := until_
                      car := a.car
                      deck := a.deck
                      phase := .waiting }) t)))
        ∧ (acted → ¬answers → a.result ≠ .assigned → settles h t)
        ∧ (acted → ¬answers → a.result = .assigned → ¬boards →
          (kioskJob s.cfg = false ∨ findPrompt s.prompts a.key = none → settles h t)
          ∧ ∀ p, kioskJob s.cfg = true → findPrompt s.prompts a.key = some p →
            (p.localUntil = none → settles h t)
            ∧ (p.localUntil.isSome = true → p.car = a.car ∧ p.deck = a.deck →
              settles
                { h with
                  prompts := s.prompts.map fun q =>
                    if q.key = a.key then { q with validUntil := until_ } else q } t)
            ∧ (p.localUntil.isSome = true → ¬(p.car = a.car ∧ p.deck = a.deck) → p.board = .none →
              settles
                { h with
                  prompts := s.prompts.filter fun q => q.key != a.key
                  showFifo := withdrawnFrom s.showFifo (isTakeOf a.key) } t)
            ∧ (p.localUntil.isSome = true → ¬(p.car = a.car ∧ p.deck = a.deck) → p.board ≠ .none →
              settles
                { h with
                  prompts := s.prompts.map fun q =>
                    if q.key = a.key then { q with localUntil := none } else q } t))

/-- R108, R109, R110, R125: the board side of an ASSIGNED ASSIGN that is no answer, in ACTIVE or DIM. A key in
the release buffer is ignored. A new key brings a Pending record, evicting at a full table (R111); a known
one with the same car and deck has its validity renewed, and gains Pending where it had no board state; one
with another car is reassigned and Waiting again, its board state kept, and loses a local part this kiosk
holds; a record that such a part alone kept leaves, and a new one joins. The phase test decides Boarding
where a record is made, gains Pending or is reassigned. Acting on it is an activity; that it is one too at a
full table that makes no record, and that a kiosk address of 128..255 names a key, are the model's readings
(assumptions 12 and 28). -/
def Obligations.AssignMakesOrRenewsTheRecord : Prop :=
  ∀ (s : State) (e : RxEntry) (rest : List RxEntry) (a : AssignFields),
    headIs s e rest → e.kind = .assign → assignOf s.cfg.floors.length e.payload = some a →
    a.result = .assigned → isAnswer a s = false → s.recallLatch.latched = false →
    boardStation s.cfg = true → (s.power.mode = .active ∨ s.power.mode = .dim) →
    let until_ : Nat :=
      s.now + (if a.validity = 0 then s.cfg.defaultValidity else a.validity) * 1000
    let acted : State := { headTaken s rest with power := stirred s }
    let isKey (q : PromptRecord) : Bool := q.key == a.key
    let put (q : PromptRecord) : State :=
      { acted with prompts := s.prompts.map fun x => if x.key = a.key then q else x }
    let made : PromptRecord :=
      { key := a.key
        dest := a.dest
        car := a.car
        deck := a.deck
        cls := a.cls
        phase := .waiting
        validUntil := until_
        localUntil := none
        board := .pending
        holdoff := none
        takeQueued := false
        claimant := none
        reassertDone := false
        claimTime := none
        claimOrder := 0 }
    ∃ t, exec .assign s = .next t
      ∧ ((∃ r ∈ s.releases, r.key = a.key) →
          (kioskJob s.cfg = true → ∀ p, findPrompt s.prompts a.key = some p → p.localUntil = none) →
          settles (headTaken s rest) t)
      ∧ ((∀ r ∈ s.releases, r.key ≠ a.key) →
        (findPrompt s.prompts a.key = none →
          settles (phaseTests isKey (joinPrompt made acted)) t
            ∧ (s.prompts.length < 24 →
              ∃ ph,
                (ph = .boarding ↔ boardsNow s a.car a.deck)
                ∧ settles { acted with prompts := s.prompts ++ [{ made with phase := ph }] } t))
        ∧ ∀ p, findPrompt s.prompts a.key = some p →
          let own : Prop := kioskJob s.cfg = true ∧ p.localUntil.isSome = true
          let another : Prop := ¬(p.car = a.car ∧ p.deck = a.deck)
          let moved : PromptRecord :=
            { p with
              car := a.car
              deck := a.deck
              phase := .waiting
              validUntil := until_
              board := if p.board = .none then .pending else p.board }
          (¬another → p.board ≠ .none → settles (put { p with validUntil := until_ }) t)
          ∧ (¬another → p.board = .none →
              settles (phaseTests isKey (put { p with validUntil := until_, board := .pending })) t)
          ∧ (another → ¬own → settles (phaseTests isKey (put moved)) t)
          ∧ (another → own → p.board ≠ .none →
              settles (phaseTests isKey (put { moved with localUntil := none })) t)
          ∧ (another → own → p.board = .none →
              settles
                (phaseTests isKey
                  (joinPrompt made
                    { acted with
                      prompts := s.prompts.filter fun q => q.key != a.key
                      showFifo := withdrawnFrom s.showFifo (isTakeOf a.key) })) t)
          ∧ (¬own ∨ p.board ≠ .none → another →
            ∃ ph,
              (ph = .boarding ↔ boardsNow s a.car a.deck)
              ∧ settles
                  (put
                    { moved with
                      phase := ph
                      localUntil := if kioskJob s.cfg = true then none else p.localUntil }) t))

/-- R111: a record joins as the newest while fewer than 24 are held. At a full table the oldest Watched record
with its mark clear is evicted; failing that the oldest Pending one with no holdoff and its mark clear;
failing both the new record is not made. Either sets PROMPT_DROPPED. R125, R126: a phase test makes a
Waiting record Boarding on the terms of R125, and retires a Boarding one whose car runs, with the TAKE of it
that waits; it leaves everything else as it is. -/
def Obligations.RecordsJoinBoardAndRetire : Prop :=
  (∀ (s : State) (p : PromptRecord), (s.prompts.map PromptRecord.key).Nodup →
    let first (f : PromptRecord → Bool) (v : PromptRecord) : Prop := s.prompts.find? f = some v
    let watched (q : PromptRecord) : Bool := q.board == .watched && !q.takeQueued
    let free (q : PromptRecord) : Bool := q.board == .pending && q.holdoff.isNone && !q.takeQueued
    (s.prompts.length < 24 → joinPrompt p s = { s with prompts := s.prompts ++ [p] })
    ∧ (∀ v, 24 ≤ s.prompts.length →
        (first watched v ∨ (s.prompts.any watched = false ∧ first free v)) →
        (joinPrompt p s).prompts = (s.prompts.filter fun q => q.key != v.key) ++ [p]
          ∧ (joinPrompt p s).prompts.length = s.prompts.length
          ∧ (joinPrompt p s).status.flags = s.status.flags ||| flagWord .promptDropped
          ∧ joinPrompt p s =
              setFlag .promptDropped
                { s with
                  prompts := (s.prompts.filter fun q => q.key != v.key) ++ [p]
                  showFifo := withdrawnFrom s.showFifo (isTakeOf v.key) })
    ∧ (24 ≤ s.prompts.length → s.prompts.any watched = false → s.prompts.any free = false →
        joinPrompt p s = setFlag .promptDropped s))
  ∧ (∀ (k : AssignKey) (i : ShowItem),
      (isTakeOf k i = true ↔ i.act ≠ .release ∧ i.key = k ∧ i.withdrawn = false)
      ∧ (isReleaseOf k i = true ↔ i.act = .release ∧ i.key = k ∧ i.withdrawn = false))
  ∧ ∀ (s : State) (sel : PromptRecord → Bool), (s.prompts.map PromptRecord.key).Nodup →
    let tested := phaseTests sel s
    tested = { s with prompts := tested.prompts, showFifo := tested.showFifo }
    ∧ (tested.prompts.map PromptRecord.key).Sublist (s.prompts.map PromptRecord.key)
    ∧ (tested.showFifo =
        withdrawnFrom s.showFifo fun i =>
          s.prompts.any fun p => isTakeOf p.key i && tested.prompts.all fun q => q.key != p.key)
    ∧ ∀ p ∈ s.prompts,
      (sel p = false → p ∈ tested.prompts)
      ∧ (sel p = true → p.phase = .waiting → ¬boardsNow s p.car p.deck → p ∈ tested.prompts)
      ∧ (sel p = true → p.phase = .waiting → boardsNow s p.car p.deck →
          { p with phase := .boarding } ∈ tested.prompts)
      ∧ (sel p = true → p.phase = .boarding → ¬runsNow s p.car → p ∈ tested.prompts)
      ∧ (sel p = true → p.phase = .boarding → runsNow s p.car →
          p.key ∉ tested.prompts.map PromptRecord.key
            ∧ ∀ i ∈ tested.showFifo, isTakeOf p.key i = false)

/-- SHOW_TAKE (R119 to R122, R129): a peer's TAKE as a board station that is not DORMANT takes it, by what
it holds for the key. A Pending record becomes Watched, its holdoff cancelled and its waiting TAKE removed;
an Owned one yields to a lower address, or is marked and its reassert TAKE queued, once. Of a peer at the
station's own address nothing is said (assumption 4). SHOW_RELEASE (R123): only a Watched record of that
claimant changes, back to Pending. A SHOW that fails the check is discarded with LINE_CHECK_ERROR; with no
board, and in DORMANT, a SHOW is ignored. That SHOW_TAKE takes a SHOW of an unknown action is the model's
choice (assumption 3), as is a kiosk address of 128..255 (assumption 28). -/
def Obligations.PeerShowsMoveTheRecord : Prop :=
  ∀ (s : State) (e : RxEntry) (rest : List RxEntry),
    headIs s e rest → e.kind = .shows →
    let b := byteAt e.payload
    let h := headTaken s rest
    let k : AssignKey := { kiosk := b 2, tag := wordAt e.payload 3 }
    let bad : Prop := wordAt e.payload 3 = 0 ∨ b 2 = 0 ∨ b 2 = 127
    let acts : Prop := boardStation s.cfg = true ∧ s.power.mode ≠ .dormant
    let fifo := s.showFifo.filter fun i => !(isTakeOf k i && !i.onLine)
    let update (g : PromptRecord → PromptRecord) : List PromptRecord :=
      s.prompts.map fun q => if q.key = k then g q else q
    -- while the line is busy nothing is offered, and the named list and fields stand as written
    let stands (t : State) (q : List ShowItem) (g : PromptRecord → Prop) : Prop :=
      s.line.watch = .busy → drainHolds s →
        t.showFifo = q ∧ ∀ p ∈ t.prompts, p.key = k → g p
    (showOf e.payload = none ↔ (b 1 ≠ 1 ∧ b 1 ≠ 2) ∨ bad)
    ∧ (b 1 ≠ 2 → ¬acts → ∃ t, exec .showTake s = .next t ∧ settles h t)
    ∧ (b 1 = 2 → ¬acts → ∃ t, exec .showRelease s = .next t ∧ settles h t)
    ∧ (b 1 ≠ 2 → acts →
      ∃ t, exec .showTake s = .next t
        ∧ (b 1 ≠ 1 ∨ bad → settles (setFlag .lineCheckError h) t)
        ∧ (b 1 = 1 → ¬bad →
          ((∃ r ∈ s.releases, r.key = k) →
            settles
              { h with
                releases := s.releases.filter fun r => r.key != k
                showFifo := withdrawnFrom s.showFifo (isReleaseOf k) } t)
          ∧ ((∀ r ∈ s.releases, r.key ≠ k) → findPrompt s.prompts k = none → settles h t)
          ∧ ∀ p, (∀ r ∈ s.releases, r.key ≠ k) → findPrompt s.prompts k = some p →
            (p.board = .none → settles h t)
            ∧ (p.board = .pending →
              settles
                { h with
                  showFifo := fifo
                  prompts :=
                    update fun q =>
                      { q with
                        board := .watched
                        claimant := some e.source
                        holdoff := none
                        takeQueued := q.takeQueued && fifo.any (isTakeOf k) } } t
              ∧ stands t fifo (fun q => q.board = .watched ∧ q.claimant = some e.source ∧ q.holdoff = none
                  ∧ ((∀ i ∈ s.showFifo, isTakeOf k i = true → i.onLine = false) → q.takeQueued = false)))
            ∧ (p.board = .owned → e.source < s.start.address →
              settles
                (setFlag .claimConflict
                  { h with
                    showFifo := fifo
                    prompts :=
                      update fun q =>
                        { q with
                          board := .watched
                          claimant := some e.source
                          claimTime := none
                          takeQueued := q.takeQueued && fifo.any (isTakeOf k) } }) t
              ∧ stands t fifo (fun q => q.board = .watched ∧ q.claimant = some e.source
                  ∧ ((∀ i ∈ s.showFifo, isTakeOf k i = true → i.onLine = false) → q.takeQueued = false)))
            ∧ (p.board = .owned → s.start.address < e.source → p.reassertDone = false →
              settles
                (setFlag .claimConflict
                  { h with
                    showFifo := s.showFifo ++ [{ act := .reassert, key := k, onLine := false }]
                    prompts := update fun q => { q with takeQueued := true, reassertDone := true } }) t
              ∧ stands t (s.showFifo ++ [{ act := .reassert, key := k, onLine := false }])
                  (fun q => q.takeQueued = true ∧ q.reassertDone = true))
            ∧ (p.board = .owned → s.start.address < e.source → p.reassertDone = true → settles h t)
            ∧ (p.board = .watched →
              settles
                { h with
                  prompts :=
                    update fun q =>
                      { q with claimant := some ((q.claimant.map (min e.source)).getD e.source) } } t)))
    ∧ (b 1 = 2 → acts →
      ∃ t, exec .showRelease s = .next t
        ∧ (bad → settles (setFlag .lineCheckError h) t)
        ∧ (¬bad →
          settles
            { h with
              prompts := s.prompts.map fun q =>
                if q.key = k ∧ q.board = .watched ∧ q.claimant = some e.source then
                  { q with board := .pending, claimant := none }
                else q } t))

/-- LOCAL_DISPLAY_DEADLINE and VALIDITY_DEADLINE (R112): the local part goes, and with it a record that has no
board state; the record goes without a telegram, its waiting TAKE removed. HOLDOFF_DEADLINE (R117): the mark
is set, the holdoff absent, and a TAKE joins the FIFO. RELEASE_DEADLINE (R129): the entry leaves with its
RELEASE unsent. While the line is busy the FIFO then holds exactly the named items. -/
def Obligations.PromptRecordDeadlinesPass : Prop :=
  ∀ (s : State) (k : AssignKey) (d : Nat), d ≤ s.now →
    let busy : Prop := s.line.watch = .busy ∧ ¬(s.power.mode = .draining ∧ s.line.tx ≠ .sending)
    (∀ p ∈ s.prompts, (s.prompts.map PromptRecord.key).Nodup → p.key = k →
      (p.localUntil = some d →
        ∃ t, exec (.localDisplayDeadline k) s = .next t
          ∧ (p.board = .none →
            settles { s with prompts := s.prompts.filter fun q => q.key != k } t)
          ∧ (p.board ≠ .none →
            settles
              { s with
                prompts := s.prompts.map fun q =>
                  if q.key = k then { q with localUntil := none } else q } t)
          ∧ (busy → t.showFifo = s.showFifo))
      ∧ (p.validUntil = d →
        ∃ t, exec (.validityDeadline k) s = .next t
          ∧ settles
              { s with
                prompts := s.prompts.filter fun q => q.key != k
                showFifo := withdrawnFrom s.showFifo (isTakeOf k) } t
          ∧ (∀ q ∈ t.prompts, q.key ≠ k)
          ∧ (busy → t.showFifo = withdrawnFrom s.showFifo (isTakeOf k)))
      ∧ (p.holdoff = some d →
        ∃ t, exec (.holdoffDeadline k) s = .next t
          ∧ settles
              { s with
                prompts := s.prompts.map fun q =>
                  if q.key = k then { q with holdoff := none, takeQueued := true } else q
                showFifo := s.showFifo ++ [{ act := .firstTake, key := k, onLine := false }] } t
          ∧ (busy →
            t.showFifo = s.showFifo ++ [{ act := .firstTake, key := k, onLine := false }]
              ∧ t.prompts.map PromptRecord.key = s.prompts.map PromptRecord.key
              ∧ ∀ q ∈ t.prompts, q.key = k → q = { p with holdoff := none, takeQueued := true })))
    ∧ (({ key := k, deadline := d } : ReleaseEntry) ∈ s.releases →
      ∃ t, exec (.releaseDeadline k) s = .next t
        ∧ settles
            { s with
              releases := s.releases.filter fun r => r.key != k
              showFifo := withdrawnFrom s.showFifo (isReleaseOf k) } t
        ∧ (busy →
          t.releases = (s.releases.filter fun r => r.key != k)
            ∧ t.showFifo = withdrawnFrom s.showFifo (isReleaseOf k)))

/-- R113 to R116: while its terms hold and fewer rows are reserved than there are, the holdoff test starts the
holdoff of the oldest eligible record, of length r × base + (L mod base) with L the value one step of the
LFSR gives, and goes on from there; otherwise it changes nothing. The rank is the lowest listed for the
kiosk, or 7. -/
def Obligations.HoldoffsStartForTheOldestPending : Prop :=
  (∀ (s : State) (before after : List PromptRecord) (p : PromptRecord),
    let eligible (q : PromptRecord) : Bool :=
      q.board == .pending && q.holdoff.isNone && !q.takeQueued
    let reserved : Nat :=
      (s.prompts.filter fun q => q.board == .owned || q.holdoff.isSome || q.takeQueued).length
        + s.releases.length
    let terms : Prop :=
      boardStation s.cfg = true ∧ (s.power.mode = .active ∨ s.power.mode = .dim)
        ∧ s.recallLatch.latched = false ∧ s.rx.congested = false
    (¬terms ∨ s.cfg.rowCount ≤ reserved ∨ s.prompts.any eligible = false → holdoffTest s = s)
    ∧ (terms → reserved < s.cfg.rowCount → s.prompts = before ++ p :: after →
        before.any eligible = false → eligible p = true →
      let l := lfsrStep s.claim.lfsr
      let length := affinityRank s.cfg p.key.kiosk * s.cfg.holdoffBase + l.toNat % s.cfg.holdoffBase
      holdoffTest s =
        holdoffTest
          { s with
            prompts := before ++ { p with holdoff := some (s.now + length) } :: after
            claim := { s.claim with lfsr := l } }))
  ∧ (∀ l : BitVec 16,
    (lfsrStep l).toNat = if l.toNat % 2 = 1 then (l.toNat / 2) ^^^ 46080 else l.toNat / 2)
  ∧ ∀ (c : Settings) (kiosk : Nat),
    ((∀ e ∈ c.affinity, e.1 ≠ kiosk) → affinityRank c kiosk = 7)
      ∧ (∀ e ∈ c.affinity, e.1 = kiosk → affinityRank c kiosk ≤ e.2)
      ∧ (∀ e ∈ c.affinity, e.1 = kiosk → e.2 ≤ 6 →
          ∃ e' ∈ c.affinity, e'.1 = kiosk ∧ e'.2 = affinityRank c kiosk)

/-! ## Notices and the recall latch -/

/-- TEXT (R134, R136 to R138, R178, R194). A checked URGENT part wakes a sleeping station. A part of the
assembly in progress is put at its index; any other begins a new assembly, whose deadline is 2,000 ms
after the part's stamp, and displaces the old one with TEXT_DISCARDED. When no part is absent the joined
text is shown until 10,000 ms after the stamp of its last part: an activity, unless the slot showed that
id. A deadline that has already passed takes its effect at once. A part that is an activity leaves the
station DRAINING at the instant at which the idle deadline drained it (R180). That a part which fails the index
test still wakes, and that at any other instant an activity wakes a DRAINING station, are the model's
readings (assumptions 21 and 31); a wake leaves the entry IDLE with no prompt (R103). -/
def Obligations.TextPartsAssemble : Prop :=
  ∀ (s : State) (e : RxEntry) (rest : List RxEntry),
    headIs s e rest → e.kind = .notice → byteAt e.payload 0 = 3 →
    let b := byteAt e.payload
    (textPartOf e.payload = none ↔
      e.payload.length < 8 ∨ 24 < e.payload.length ∨ 1 < b 4 ∨ 3 < b 6 ∨ b 7 = 0 ∨ 4 < b 7)
    ∧ (∀ q, textPartOf e.payload = some q →
        b 4 = (match q.slot with | .urgent => 0 | .info => 1) ∧ q.id = b 5 ∧ q.index = b 6
        ∧ q.count = b 7 ∧ q.chars = (e.payload.drop 8).map BitVec.toNat)
    ∧ ∃ t, exec .text s = .next t
      ∧ (textPartOf e.payload = none → settles (setFlag .lineCheckError (headTaken s rest)) t)
      ∧ ∀ q, textPartOf e.payload = some q →
        let x := getSlot q.slot s.notices
        let woken : State :=
          if q.slot = .urgent ∧ asleep s.power.mode = true then awakened .dim (headTaken s rest)
          else headTaken s rest
        let put (h : State) (y : TextSlot) : State := { h with notices := putSlot q.slot y s.notices }
        let finished (h : State) (parts : List (Option (List Nat))) : State :=
          { put h
              { shown :=
                  if e.stamp + 10000 ≤ s.now then none
                  else
                    some
                      { id := q.id
                        text := parts.flatMap fun c => c.getD []
                        life := e.stamp + 10000 }
                assembly := none } with
            power :=
              if x.shown.map ShownText.id = some q.id then h.power
              else { h.power with idleDeadline := idleAnew s } }
        let gathering (h : State) (a : Assembly) : State :=
          if a.deadline ≤ s.now then setFlag .textDiscarded (put h { x with assembly := none })
          else put h { x with assembly := some a }
        -- an activity at the instant of an idle drain, which leaves the station DRAINING (R180)
        let kept : State :=
          if drainsIdle s ∧ x.shown.map ShownText.id ≠ some q.id then headTaken s rest else woken
        (q.count ≤ q.index → settles (setFlag .lineCheckError woken) t)
        ∧ (∀ a, q.index < q.count → x.assembly = some a → a.id = q.id → a.parts.length = q.count →
          let parts := a.parts.set q.index (some q.chars)
          (none ∈ parts → settles (gathering woken { a with parts := parts }) t)
          ∧ (none ∉ parts → settles (finished kept parts) t))
        ∧ (q.index < q.count →
            (∀ a, x.assembly = some a → ¬(a.id = q.id ∧ a.parts.length = q.count)) →
          let parts := (List.replicate q.count none).set q.index (some q.chars)
          let begun (h : State) : State := if x.assembly.isSome then setFlag .textDiscarded h else h
          (q.count ≠ 1 →
            settles (gathering (begun woken) { id := q.id, parts := parts, deadline := e.stamp + 2000 }) t)
          ∧ (q.count = 1 → settles (finished (begun kept) parts) t))

/-- TEXT_CLEAR (R134, R139, R194): the shown text and the assembly of the id leave the slot, with no flag.
ASSEMBLY_DEADLINE (R138): the assembly is discarded with TEXT_DISCARDED. LIFE_DEADLINE (R140): the shown text
is emptied. R135: the two slots are apart. -/
def Obligations.TextsAreClearedAndExpire : Prop :=
  (∀ (n : NoticeStore) (slot other : Slot) (x : TextSlot),
    getSlot slot n = (match slot with | .urgent => n.urgent | .info => n.info)
      ∧ getSlot slot (putSlot slot x n) = x
      ∧ (other ≠ slot → getSlot other (putSlot slot x n) = getSlot other n))
  ∧ (∀ (s : State) (e : RxEntry) (rest : List RxEntry),
    headIs s e rest → e.kind = .notice → byteAt e.payload 0 = 4 →
    (textClearOf e.payload = none ↔ e.payload.length < 6 ∨ 1 < byteAt e.payload 4)
    ∧ ∃ t, exec .textClear s = .next t
      ∧ (textClearOf e.payload = none → settles (setFlag .lineCheckError (headTaken s rest)) t)
      ∧ ∀ slot id, textClearOf e.payload = some (slot, id) →
        let x := getSlot slot s.notices
        byteAt e.payload 4 = (match slot with | .urgent => 0 | .info => 1)
        ∧ id = byteAt e.payload 5
        ∧ settles
          { headTaken s rest with
            notices :=
              putSlot slot
                { shown := x.shown.filter fun v => v.id != id
                  assembly := x.assembly.filter fun a => a.id != id } s.notices } t)
  ∧ ∀ (s : State) (slot : Slot),
    (∀ a, (getSlot slot s.notices).assembly = some a → a.deadline ≤ s.now →
      ∃ t, exec (.assemblyDeadline slot) s = .next t
        ∧ settles
            (setFlag .textDiscarded
              { s with
                notices :=
                  putSlot slot { getSlot slot s.notices with assembly := none } s.notices }) t)
    ∧ (∀ v, (getSlot slot s.notices).shown = some v → v.life ≤ s.now →
      ∃ t, exec (.lifeDeadline slot) s = .next t
        ∧ settles
            { s with
              notices := putSlot slot { getSlot slot s.notices with shown := none } s.notices } t)

/-- RECALL (R145, R148, R179, R131): with the key away from BYPASS a CLEAR latch becomes SET, and the
request file, the entry, the prompt table, the release buffer and the SHOW FIFO are emptied and the state
is ACTIVE; at BYPASS it is a wake source and no more, and a wake leaves the entry IDLE with no prompt (R103).
RECALL_END (the table of R146, R150, R179). That RECALL takes a notice of an unknown kind is the model's choice
(assumption 3); that an item on the line leaves the FIFO is its reading (assumption 8). -/
def Obligations.RecallNoticesDriveTheLatch : Prop :=
  ∀ (s : State) (e : RxEntry) (rest : List RxEntry), headIs s e rest → e.kind = .notice →
    let h := headTaken s rest
    (byteAt e.payload 0 = 1 →
      ∃ t, exec .recallStart s = .next t
        ∧ (s.recallLatch.position = .bypass →
          settles (if asleep s.power.mode then awakened .dim h else h) t)
        ∧ (s.recallLatch.position ≠ .bypass → s.recallLatch.latched = true → awake s.power.mode = true →
          settles h t)
        ∧ (s.recallLatch.position ≠ .bypass → s.recallLatch.latched = false →
          settles
            (setFlag .recallChanged
              { h with
                recallLatch := { s.recallLatch with latched := true }
                power :=
                  if asleep s.power.mode then wakened .active s else { s.power with mode := .active }
                display := wakenedDisplay s
                requests := { s.requests with entries := [] }
                entry := EntryController.idle
                prompts := []
                releases := []
                showFifo := [] }) t))
    ∧ (byteAt e.payload 0 = 2 →
      ∃ t, exec .recallEnd s = .next t
        ∧ (s.recallLatch.latched = false → settles h t)
        ∧ (s.recallLatch.latched = true → s.recallLatch.position = .off →
          settles
            (setFlag .recallChanged
              { h with
                recallLatch := { s.recallLatch with latched := false }
                power := if s.power.night then { stirred s with mode := .dim } else s.power }) t)
        ∧ (s.recallLatch.latched = true → s.recallLatch.position = .on →
          settles (setFlag .recallEndRefused h) t)
        ∧ (s.recallLatch.latched = true → s.recallLatch.position = .bypass → settles h t))
    ∧ (noticeKindOf (byteAt e.payload 0) = none →
      ∃ t, exec .recallStart s = .next t ∧ settles (setFlag .lineCheckError h) t)

/-- RECALL_KEY_MOVE (R143, R145, R146, R148, R179): the new position is taken; in RUNNING, ON sets a CLEAR
latch and wakes, BYPASS clears a SET one, OFF leaves it; before RUNNING and in safe mode the position
alone is taken. A key that is not fitted is not read. Both contacts closed read as ON. The contacts stay as
they are where they or the sampler have read the position, and otherwise close for it (assumption 16); an
item on the line leaves the FIFO (assumption 8). -/
def Obligations.RecallKeyDrivesTheLatch : Prop :=
  (∀ r : RecallLatch,
    (r.onContact = true → contactPosition r = .on)
      ∧ (r.onContact = false → r.bypassContact = true → contactPosition r = .bypass)
      ∧ (r.onContact = false → r.bypassContact = false → contactPosition r = .off))
  ∧ ∀ (s : State) (position : KeyPosition), s.recallLatch.position ≠ position →
    let l := s.recallLatch
    let read : Prop := l.reading = position ∨ contactPosition l = position
    let moved := placeKey position s.now l
    (moved.position = position ∧ moved.latched = l.latched ∧ moved.reading = position
      ∧ moved.readingSince = (if l.reading = position then l.readingSince else s.now)
      ∧ (read → moved.onContact = l.onContact ∧ moved.bypassContact = l.bypassContact)
      ∧ (¬read → contactPosition moved = position
          ∧ ¬(moved.onContact = true ∧ moved.bypassContact = true)))
    ∧ (s.cfg.keyFitted = false ∨ s.start.stage = .heldInReset →
        exec (.recallKeyMove position) s = .next s)
    ∧ (s.cfg.keyFitted = true → s.start.stage ≠ .heldInReset → serving s = false →
        exec (.recallKeyMove position) s = .next { s with recallLatch := moved })
    ∧ (s.cfg.keyFitted = true → serving s = true →
      ∃ t, exec (.recallKeyMove position) s = .next t
        ∧ (position = .off → settles { s with recallLatch := moved } t)
        ∧ (position = .on → l.latched = false →
          settles
            (setFlag .recallChanged
              { s with
                recallLatch := { moved with latched := true }
                power :=
                  if asleep s.power.mode then wakened .active s else { s.power with mode := .active }
                display := wakenedDisplay s
                requests := { s.requests with entries := [] }
                entry := EntryController.idle
                prompts := []
                releases := []
                showFifo := [] }) t)
        ∧ (position = .on → l.latched = true → awake s.power.mode = true →
          settles { s with recallLatch := moved } t)
        ∧ (position = .bypass → l.latched = false → settles { s with recallLatch := moved } t)
        ∧ (position = .bypass → l.latched = true →
          settles
            (setFlag .recallChanged
              { s with
                recallLatch := { moved with latched := false }
                power := if s.power.night then { stirred s with mode := .dim } else s.power }) t))

/-! ## Power states -/

/-- NIGHT and DAY: the table of R171, with the deadlines of R173 and R178; a wake leaves the entry IDLE with no
prompt (R103). -/
def Obligations.NightAndDayFollowTheTableOfR171 : Prop :=
  ∀ (s : State) (e : RxEntry) (rest : List RxEntry), headIs s e rest → e.kind = .notice →
    let h := headTaken s rest
    (byteAt e.payload 0 = 5 →
      ∃ t, exec .night s = .next t
        ∧ (s.power.mode = .active → s.recallLatch.latched = false →
            settles { h with power := { stirred s with night := true, mode := .dim } } t)
        ∧ (s.power.mode = .active → s.recallLatch.latched = true →
            settles { h with power := { s.power with night := true } } t)
        ∧ (s.power.mode ≠ .active → settles h t))
    ∧ (byteAt e.payload 0 = 6 →
      ∃ t, exec .day s = .next t
        ∧ (s.power.mode = .active → s.recallLatch.latched = false → settles h t)
        ∧ (s.power.mode = .active → s.recallLatch.latched = true →
            settles { h with power := { s.power with night := false } } t)
        ∧ (s.power.mode = .dim →
            settles { h with power := { s.power with night := false, mode := .active } } t)
        ∧ (s.power.mode = .draining ∨ s.power.mode = .dormant →
            settles
              { h with
                power := { wakened .active s with night := false }
                display := wakenedDisplay s
                entry := EntryController.idle } t))

/-- WAKE_SLEEP and WAKE_WAKE: the table of R172. A SLEEP drains a DIM station and is refused in any other
state; a WAKE wakes to DIM from DRAINING and DORMANT, with the entry IDLE and no prompt (R103), and is an
activity in ACTIVE and DIM; an action that names neither is discarded with LINE_CHECK_ERROR (by either
command: the model's choice, assumption 3). -/
def Obligations.WakesFollowTheTableOfR172 : Prop :=
  ∀ (s : State) (e : RxEntry) (rest : List RxEntry), headIs s e rest → e.kind = .wake →
    let h := headTaken s rest
    (byteAt e.payload 1 = 1 →
      ∃ t, exec .wakeSleep s = .next t
        ∧ (s.power.mode = .dim → settles (drainEntry h) t)
        ∧ (s.power.mode ≠ .dim → settles h t))
    ∧ (byteAt e.payload 1 = 2 →
      ∃ t, exec .wakeWake s = .next t
        ∧ (s.power.mode = .active ∨ s.power.mode = .dim → settles { h with power := stirred s } t)
        ∧ (s.power.mode = .draining ∨ s.power.mode = .dormant → settles (awakened .dim h) t))
    ∧ (byteAt e.payload 1 ≠ 1 → byteAt e.payload 1 ≠ 2 →
      (∃ t, exec .wakeWake s = .next t ∧ settles (setFlag .lineCheckError h) t)
        ∧ ∃ t, exec .wakeSleep s = .next t ∧ settles (setFlag .lineCheckError h) t)

/-- IDLE_DEADLINE (R173, R174, R128, R130, R103): a DIM station enters DRAINING, with 500 ms to drain; the Owned
records go to the release buffer in row order, the oldest claim first (R127), with their RELEASEs, holdoffs and
waiting TAKEs are cancelled, and the request file is emptied. While the line is busy the FIFO and the records
stand so. With nothing to release and nothing being sent it is DORMANT at once (R175). In ACTIVE, DRAINING and
DORMANT the idle deadline has no effect (R173). DRAIN_DEADLINE (R175, R176): DORMANT, with what that empties.
That an item on the line leaves the FIFO at DORMANT is the model's reading (assumption 8); the order of claims
of one millisecond and the instant kept of an idle drain are the model's own (assumptions 9 and 31). -/
def Obligations.DrainAndDormantEntries : Prop :=
  (∀ ps : List PromptRecord,
    (rowsOf ps).Perm (ps.filter fun p => p.board == .owned)
      ∧ (rowsOf ps).Pairwise fun p q =>
          p.claimTime.getD 0 < q.claimTime.getD 0
            ∨ (p.claimTime.getD 0 = q.claimTime.getD 0 ∧ p.claimOrder ≤ q.claimOrder))
  ∧ (∀ s : State, s.power.mode ≠ .dim → exec .idleDeadline s = .next s)
  ∧ ∀ (s : State) (d : Nat), d ≤ s.now →
    (s.power.mode = .dim → s.power.idleDeadline = some d →
      let owned := rowsOf s.prompts
      let fifo := s.showFifo.filter fun i => i.act == .release || i.onLine
      let records :=
        (s.prompts.filter fun p => p.board != .owned).map fun p =>
          { p with holdoff := none, takeQueued := p.takeQueued && fifo.any (isTakeOf p.key) }
      let releases :=
        s.releases ++ owned.map fun p => ({ key := p.key, deadline := s.now + 500 } : ReleaseEntry)
      let queue :=
        (fifo.map fun i =>
            if owned.any fun p => isTakeOf p.key i then { i with withdrawn := true } else i)
          ++ owned.map fun p => ({ act := .release, key := p.key, onLine := false } : ShowItem)
      ∃ t, exec .idleDeadline s = .next t
        ∧ settles
            { s with
              power :=
                { s.power with
                  mode := .draining, drainDeadline := some (s.now + 500), idleDrainAt := some s.now }
              prompts := records
              releases := releases
              showFifo := queue
              requests := { s.requests with entries := [] } } t
        ∧ (s.releases = [] → owned = [] → s.line.tx ≠ .sending →
            t.power.mode = .dormant ∧ t.prompts = [] ∧ t.showFifo = [])
        ∧ (s.releases ≠ [] ∨ owned ≠ [] ∨ s.line.tx = .sending →
            t.power.mode = .draining ∧ t.releases = releases
              ∧ (s.line.watch = .busy → t.showFifo = queue ∧ t.prompts = records)))
    ∧ (s.power.mode = .draining → s.power.drainDeadline = some d →
      ∃ t, exec .drainDeadline s = .next t
        ∧ t.showFifo = [] ∧ t.prompts = []
        ∧ settles
            { s with
              power := { s.power with mode := .dormant, drainDeadline := none }
              cars := s.cars.map fun c =>
                if c.freshness = .live then { c with freshness := .stale } else c
              lanterns := s.lanterns.map fun l => { l with lit := false, doorSeen := false }
              chime := { queue := [], player := .idle }
              prompts := []
              releases := []
              showFifo := []
              requests := { s.requests with entries := [] }
              entry := EntryController.idle
              display :=
                { s.display with
                  regions := s.display.regions.map fun v =>
                    { v with offset := 0, stepping := false, deadline := none } } } t)

/-! ## Composition and outputs -/

/-- SCROLL_DEADLINE (R163) of a region that shows its present string, longer than it is wide: from PAUSE
to offset 1, one cell on, or a new pass of 1,000 ms of pause, and nothing else changes; a region whose
string fits has no step. In DORMANT no pass runs (R166). BLINK_PHASE_CHANGE (R162): ON while the station
time's remainder by 1,000 is below 500. The next deadline runs from the instant of the command
(assumption 25). -/
def Obligations.ScrollAndBlinkFollowTheTimebase : Prop :=
  (∀ (s : State) (i : Nat) (v : RegionView),
    s.display.regions[i]? = some v → v.text = codesOf (compose s i v.region) →
    let after (w : RegionView) : State :=
      { s with display := { s.display with regions := s.display.regions.set i w } }
    ∃ t, exec (.scrollDeadline i) s = .next t
      ∧ (s.power.mode = .dormant → t = s)
      ∧ (s.power.mode ≠ .dormant → v.text.length ≤ v.region.width → settles s t)
      ∧ ∀ d, s.power.mode ≠ .dormant → v.region.width < v.text.length → v.deadline = some d →
        d ≤ s.now →
        (v.stepping = false →
            settles
              (after
                { v with offset := 1, stepping := true, deadline := some (s.now + s.cfg.scrollStep) }) t)
        ∧ (v.stepping = true → v.offset < v.text.length - v.region.width →
            settles
              (after { v with offset := v.offset + 1, deadline := some (s.now + s.cfg.scrollStep) }) t)
        ∧ (v.stepping = true → v.text.length - v.region.width ≤ v.offset →
            settles
              (after { v with offset := 0, stepping := false, deadline := some (s.now + 1000) }) t)
        ∧ (drainHolds s →
          (v.stepping = false →
            t.display.regions[i]? =
              some
                { v with offset := 1, stepping := true, deadline := some (s.now + s.cfg.scrollStep) })
          ∧ (v.stepping = true → v.offset < v.text.length - v.region.width →
            t.display.regions[i]? =
              some { v with offset := v.offset + 1, deadline := some (s.now + s.cfg.scrollStep) })
          ∧ (v.stepping = true → v.text.length - v.region.width ≤ v.offset →
            t.display.regions[i]? =
              some { v with offset := 0, stepping := false, deadline := some (s.now + 1000) })))
  ∧ ∀ s : State,
    exec .blinkPhaseChange s =
      .next { s with display := { s.display with blinkOn := decide (s.now % 1000 < 500) } }

/-- The layers of R153 and R154 and the contents of R155 to R159, cell by cell: the recall text over
everything on a BOARD, KIOSK or NOTICE region, then the urgent text, then the region's own content: the car
with its direction and service, two dashes where it has no floor to show; the stops in serving order; the
rows in claim order (R127), eight cells each; the echo, the prompt with its fixed words, or the idle text. -/
def Obligations.RegionsShowTheHighestLayer : Prop :=
  ∀ (s : State) (i : Nat) (g : Region),
    let shown := codesOf (compose s i g)
    let label (f : Nat) : List Nat := ((s.cfg.floors[f]?).map Floor.label).getD []
    let name (k : CarKey) : Nat := (s.cfg.carNames[k.group.val * 16 + k.car.val]?).getD 0
    let recalled : Prop :=
      s.recallLatch.latched = true ∧ (g.kind = .board ∨ g.kind = .kiosk ∨ g.kind = .notice)
    let urgent : Prop := s.notices.urgent.shown.isSome = true ∧ (g.kind = .notice ∨ g.overlay = true)
    let notServed : List Nat := [32, 78, 79, 84, 32, 83, 69, 82, 86, 69, 68]
    (recalled → shown = [5, 32] ++ s.cfg.recallText)
    ∧ (∀ v, ¬recalled → urgent → s.notices.urgent.shown = some v → shown = v.text)
    ∧ (¬recalled → ¬urgent →
      (g.kind = .notice → shown = (s.notices.info.shown.map ShownText.text).getD [])
      ∧ (∀ car deck c r, g.kind = .position car deck → findCar s.cars car = some c →
          c.report = some r →
        let direction : Nat :=
          match r.motion, r.committed with
          | .runUp, _ => 1 | .runDown, _ => 2 | _, some .up => 1 | _, some .down => 2 | _, none => 32
        let floor : List Nat := match c.shown[i]? with | some (some f) => label f | _ => [7, 7]
        let service : List Nat :=
          match r.service with
          | .normal => [] | .fireRecall => [5] | .fireService => [5] | .independent => [42]
          | .inspection => [35] | .outOfService => [88]
        (c.freshness = .awaiting ∨ c.freshness = .lost → shown = [7, 7])
        ∧ (c.freshness = .stale → shown = [32] ++ floor ++ service)
        ∧ (c.freshness = .live → shown = [direction] ++ floor ++ service))
      ∧ (∀ car deck c, g.kind = .position car deck → findCar s.cars car = some c → c.report = none →
          shown = [7, 7])
      ∧ (∀ car c, g.kind = .stoplist car → findCar s.cars car = some c →
        (c.floor = none ∨ c.report = none → shown = [])
        ∧ ∀ f r, c.floor = some f → c.report = some r →
          let stops :=
            if r.motion = .parked ∧ (r.door = .opening ∨ r.door = .opened) then
              c.stops.filter fun x => x != f
            else c.stops
          let served (l : List Nat) : List Nat := ((l.map label).intersperse [32]).flatten
          (r.committed = some .up →
            shown =
              served (stops.filter (fun x => f ≤ x) ++ (stops.filter fun x => x < f).reverse))
          ∧ (r.committed = some .down →
            shown =
              served ((stops.filter fun x => x ≤ f).reverse ++ stops.filter fun x => f < x))
          ∧ (r.committed = none → shown = served stops))
      ∧ (g.kind = .board →
        shown.length = 8 * s.cfg.rowCount
        ∧ ∀ m, m < s.cfg.rowCount →
          (∀ p, (rowsOf s.prompts)[m]? = some p →
            (shown.drop (8 * m)).take 8 =
              (label p.dest ++ [32, 32, 32]).take 3
                ++ [32, name p.car,
                  (match p.deck with | some .lower => 3 | some .upper => 4 | none => 32),
                  (match p.cls with | .accessible => 6 | .standard => 32), 32])
          ∧ ((rowsOf s.prompts).length ≤ m → (shown.drop (8 * m)).take 8 = List.replicate 8 32))
      ∧ (g.kind = .kiosk →
        (s.entry.entering = true →
            shown = [84, 79, 32] ++ s.entry.buffer
              ++ (match s.entry.cls with | .accessible => [6] | .standard => []))
        ∧ (s.entry.entering = false → s.entry.prompt = none → shown = s.cfg.idleText)
        ∧ (∀ p, s.entry.entering = false → s.entry.prompt = some p →
            shown =
              match p.content with
              | .wait f => [87, 65, 73, 84, 32] ++ label f
              | .invalid x => [78, 79, 32, 70, 76, 79, 79, 82, 32] ++ x
              | .notHere f => [84, 72, 73, 83, 32, 73, 83, 32] ++ label f
              | .notServed f => label f ++ notServed
              | .busy f => [66, 85, 83, 89, 32] ++ label f
              | .tryAgain f => [84, 82, 89, 32, 65, 71, 65, 73, 78, 32] ++ label f
              | .answer _ f car deck cls =>
                label f ++ [32, 67, 65, 82, 32, name car]
                  ++ (match deck with | some .lower => [3] | some .upper => [4] | none => [])
                  ++ (match cls with | .accessible => [6] | .standard => [])
              | .refused f .notServed => label f ++ notServed
              | .refused f .unavailable =>
                label f ++ [32, 85, 78, 65, 86, 65, 73, 76, 65, 66, 76, 69])))

/-- R151, R152, R163: in a serving station the matrix shows each region's string, from its scroll offset where
it is longer than the region, else from the first cell, or centred for a POSITION, with spaces past its
ends; a cell of no region is dark. R158, R160, R162: the cells that blink are those of a Boarding row and of
an ANSWER whose record is Boarding with its local part. R161, R165 to R168, R182: the drawn cell, the level
of a line, the drive of a lantern output, the chime output with its wave in microseconds (half duty, high
first, from the beginning of a tone to its end) and the patterns. R195, R197: while SENDING the
line output is the telegram's bits with its CRC, most significant first, a 0 dominant for three quarters of
T and a 1 for one, sampled at T/2, where a 0 of any sender is read. -/
def Obligations.OutputsFollowTheState : Prop :=
  ∀ s : State,
    (∀ n,
      (serving s = false → lineLevel s n = 12)
      ∧ (serving s = true →
        (s.power.mode = .active →
          (lineLevel s n : Int) = max 0 (min 15 (s.cfg.activeLevel + s.cfg.trims[n]?.getD 0)))
        ∧ (s.power.mode = .dim ∨ s.power.mode = .draining →
          (lineLevel s n : Int) = max 0 (min 15 (s.cfg.dimLevel + s.cfg.trims[n]?.getD 0)))
        ∧ (s.power.mode = .dormant → lineLevel s n = 0)))
    ∧ (∀ o,
      (serving s = false → lanternOutput s o = .released)
      ∧ (o ∉ s.lanterns.map (fun l => l.entry.output) → lanternOutput s o = .released)
      ∧ (∀ l ∈ s.lanterns, serving s = true → (s.lanterns.map fun l => l.entry.output).Nodup →
        (l.entry.mode = .pushPull → l.lit = true → lanternOutput s l.entry.output = .high)
        ∧ (l.entry.mode = .pushPull → l.lit = false → lanternOutput s l.entry.output = .low)
        ∧ (l.entry.mode = .openDrain → l.lit = true → lanternOutput s l.entry.output = .low)
        ∧ (l.entry.mode = .openDrain → l.lit = false →
            lanternOutput s l.entry.output = .released)))
    ∧ ((chimeOutput s = .square1000Hz ↔ ∃ e left ends, s.chime.player = .tone e left ends)
      ∧ (∀ n, (∀ e left ends, s.chime.player ≠ .tone e left ends) → chimeLevel s n = .low)
      ∧ ∀ e left began n, s.chime.player = .tone e left (began + 300) → began ≤ s.now →
        let sounded := (s.now - began) * 1000 + n
        (sounded < 300000 → sounded % 1000 < 500 → chimeLevel s n = .high)
        ∧ (300000 ≤ sounded ∨ 500 ≤ sounded % 1000 → chimeLevel s n = .low))
    ∧ ((∀ a, s.line.tx = .sending → s.line.attempt = some a →
        lineOutput s =
          bitsOf 3 a.frame.priority.toNat ++ bitsOf 7 a.frame.source.toNat
            ++ bitsOf 4 a.frame.kind.toNat ++ bitsOf 5 a.frame.length.toNat
            ++ (a.frame.payload.flatMap fun x => bitsOf 8 x.toNat) ++ bitsOf 16 a.frame.crc.toNat)
      ∧ (s.line.tx ≠ .sending → lineOutput s = [])
      ∧ (∀ w n j, j < w → (bitsOf w n)[j]? = some (n.testBit (w - 1 - j)))
      ∧ (lineLevels s =
          (lineOutput s).flatMap fun x =>
            [.dominant, if x then .recessive else .dominant, if x then .recessive else .dominant,
              .recessive])
      ∧ (∀ x y, sampleBit (List.zipWith wiredAnd (bitQuarters x) (bitQuarters y)) = (x && y)))
    ∧ (∀ n j,
      (running s = false → matrixCell s n j = some 7)
      ∧ (running s = true → rejected s = true → 12 ≤ j → matrixCell s n j = some 7)
      ∧ (running s = true → rejected s = true → j < 12 →
          matrixCell s n j = ([67, 79, 78, 70, 73, 71, 32, 70, 65, 85, 76, 84] : List Nat)[j]?)
      ∧ (running s = true → rejected s = false →
        let covers (v : RegionView) : Prop :=
          v.region.line = n ∧ v.region.first ≤ j ∧ j < v.region.first + v.region.width
        ((∀ v ∈ s.display.regions, ¬covers v) → matrixCell s n j = none)
        ∧ ∀ i v, s.display.regions[i]? = some v → covers v →
          (∀ i' v', s.display.regions[i']? = some v' → i' ≠ i → ¬covers v') →
          let string := compose s i v.region
          let lead : Nat := (v.region.width - string.length) / 2
          let cell (m : Nat) : Nat :=
            ((string[m]?).map (drawCell s.display.blinkOn)).getD 32
          let at_ := j - v.region.first
          (v.region.width < string.length → matrixCell s n j = some (cell (v.offset + at_)))
          ∧ (string.length ≤ v.region.width → (∀ k d, v.region.kind ≠ .position k d) →
              matrixCell s n j = some (cell at_))
          ∧ (string.length ≤ v.region.width → (∃ k d, v.region.kind = .position k d) →
              (at_ < lead → matrixCell s n j = some 32)
                ∧ (lead ≤ at_ → matrixCell s n j = some (cell (at_ - lead))))))
    ∧ (∀ i g,
      let string := compose s i g
      let covered : Prop :=
        s.recallLatch.latched = true ∨ (g.overlay = true ∧ s.notices.urgent.shown.isSome = true)
      (covered ∨ (g.kind ≠ .board ∧ g.kind ≠ .kiosk) → ∀ c ∈ string, c.blinks = false)
      ∧ (g.kind = .board → ¬covered → ∀ m, m < s.cfg.rowCount →
        (∀ p, (rowsOf s.prompts)[m]? = some p →
          ∀ c ∈ (string.drop (8 * m)).take 8, (c.blinks = true ↔ p.phase = .boarding))
        ∧ ((rowsOf s.prompts).length ≤ m → ∀ c ∈ (string.drop (8 * m)).take 8, c.blinks = false))
      ∧ (g.kind = .kiosk → ¬covered → ∀ c ∈ string,
        (c.blinks = true ↔
          s.entry.entering = false
            ∧ ∃ q k f car deck cls, s.entry.prompt = some q ∧ q.content = .answer k f car deck cls
              ∧ ∃ p ∈ s.prompts, p.key = k ∧ p.phase = .boarding ∧ p.localUntil.isSome = true)))
    ∧ ∀ c : Cell,
      (c.blinks = true → drawCell false c = 32)
      ∧ (c.blinks = true → drawCell true c = drawCell false { c with blinks := false })
      ∧ ((32 ≤ c.code ∧ c.code ≤ 126) ∨ (1 ≤ c.code ∧ c.code ≤ 7) →
          drawCell true c = c.code ∧ drawCell false { c with blinks := false } = c.code)
      ∧ (c.code = 0 ∨ (8 ≤ c.code ∧ c.code < 32) ∨ 126 < c.code → drawCell true c = 32)
end

