-- ==== Sys2Proof/Laws/Clock.lean ====
section
/-! SUPPORT. Which commands the timebase queues: those of the deadlines that have passed, and those of the
events of a new instant. -/

namespace Sys2Proof.Laws

open Sys2Proof.Machine Sys2Proof.Safety

/-- A command queued on a condition. -/
theorem mem_when {b : Bool} {c d : Instr} : c ∈ when b d ↔ b = true ∧ c = d := by
  cases b <;> simp [when]

/-- A deadline has been reached. -/
theorem passed_iff (s : State) (d : Option Nat) : passed s.now d = true ↔ reached s d := by
  cases d <;> simp [passed, reached]

/-- The scroll deadlines that have passed, region by region (R163). -/
theorem mem_dueScroll (s : State) (c : Instr) :
    c ∈ dueScroll s ↔
      s.power.mode ≠ .dormant
        ∧ ∃ (i : Nat) (v : RegionView), s.display.regions[i]? = some v ∧ scrollDue s.now v = true
          ∧ c = .scrollDeadline i := by
  unfold dueScroll
  split
  · simp [*]
  · rw [List.mem_flatten]
    constructor
    · rintro ⟨l, hl, hc⟩
      obtain ⟨i, hi, rfl⟩ := List.mem_mapIdx.1 hl
      obtain ⟨hb, rfl⟩ := mem_when.1 hc
      exact ⟨‹_›, i, _, List.getElem?_eq_getElem hi, hb, rfl⟩
    · rintro ⟨-, i, v, hv, hb, rfl⟩
      obtain ⟨hi, rfl⟩ := List.getElem?_eq_some_iff.1 hv
      exact ⟨_, List.mem_mapIdx.2 ⟨i, hi, rfl⟩, mem_when.2 ⟨hb, rfl⟩⟩

/-- The deadlines of one text slot that have passed (R138, R140). -/
theorem mem_dueSlot (s : State) (t : Slot) (x : TextSlot) (c : Instr) :
    c ∈ dueSlot s.now t x ↔
      (reached s (x.assembly.map Assembly.deadline) ∧ c = .assemblyDeadline t)
        ∨ (reached s (x.shown.map ShownText.life) ∧ c = .lifeDeadline t) := by
  unfold dueSlot
  cases x.assembly <;> cases x.shown <;> simp [mem_when, reached]

/-- The chime player's deadline that has passed (R81). -/
theorem mem_dueChime (s : State) (c : Instr) :
    c ∈ dueChime s ↔
      (∃ e left ends, s.chime.player = .tone e left ends ∧ ends ≤ s.now ∧ c = .chimeToneEnd)
        ∨ (∃ e left ends, s.chime.player = .gap e left ends ∧ ends ≤ s.now ∧ c = .chimeGapEnd)
        ∨ ∃ ends, s.chime.player = .spacing ends ∧ ends ≤ s.now ∧ c = .chimeSpacingEnd := by
  unfold dueChime
  split <;> rename_i h <;> simp only [h, mem_when] <;> grind

/-- The stuck keys that are due (R87). -/
theorem mem_dueStuck (s : State) (c : Instr) :
    c ∈ (if scannerRuns s then
        s.keypad.keys.flatMap fun r => when (stuckDue s.now r.key r) (.keyStuck r.key)
      else []) ↔
      serving s = true ∧ ∃ r ∈ s.keypad.keys, stuckDue s.now r.key r = true ∧ c = .keyStuck r.key := by
  unfold scannerRuns
  split <;> simp [List.mem_flatMap, mem_when, *]

/-- The timebase queues the commands of the deadlines that have passed, and no other (Conventions, Time). -/
theorem mem_dueCommands (s : State) (c : Instr) : c ∈ dueCommands s ↔ deadlinePassed s c := by
  simp only [dueCommands, List.mem_append, mem_dueScroll, mem_dueSlot, mem_dueChime, dueLine, dueCars, dueKiosk,
    mem_dueStuck, dueBoard,
    duePower, mem_when, List.mem_flatMap]
  cases c with
  | promptDeadline => cases h : s.entry.prompt <;> simp [deadlinePassed, promptDue, reached, h]
  | assemblyDeadline slot => cases slot <;> simp [deadlinePassed, getSlot]
  | lifeDeadline slot => cases slot <;> simp [deadlinePassed, getSlot]
  | _ =>
    simp [deadlinePassed, staleDue, lostDue, stuckDue, requestDue, localDue, validityDue, holdoffDue, releaseDue,
      scrollDue, scrolls, passed_iff, Config.stuckTime] <;> grind

/-- The key events of a new instant: the keys seen open or closed for the debounce time (R85). -/
theorem mem_keyEvents (s : State) (c : Instr) :
    c ∈ keyEvents s ↔
      serving s = true
        ∧ ((∃ r ∈ s.keypad.keys, liftDue s.now r = true ∧ c = .keyUp r.key)
          ∨ ∃ keys, keys ≠ [] ∧ keys = (s.keypad.keys.filter (pressDue s.now)).map KeyRecord.key
            ∧ c = .keyDown keys) := by
  unfold keyEvents scannerRuns
  split
  · simp only [List.mem_append, List.mem_map, List.mem_filter, mem_when, *, true_and]
    grind
  · simp [*]

/-- The timebase queues the commands of the events of a new instant, and no other (R49, R85, R143, R162). -/
theorem mem_instantCommands (s : State) (c : Instr) : c ∈ instantCommands s ↔ clockEvent s c := by
  simp only [instantCommands, mem_keyEvents, List.mem_append, mem_when]
  cases c with
  | keyDown keys =>
    simp only [clockEvent, reduceCtorEq, and_false, exists_false, or_false, false_or, Instr.keyDown.injEq]
    constructor
    · rintro ⟨hs, k, hk, he, rfl⟩
      exact ⟨hs, hk, he⟩
    · rintro ⟨hs, hk, he⟩
      exact ⟨hs, keys, hk, he, rfl⟩
  | _ =>
    simp [clockEvent, liftDue, moveDue, keySampled, recallSampled, Config.debounce,
      Config.trackingInterval, Config.blinkHalf] <;> grind

end Sys2Proof.Laws
end

