-- ==== Sys2Proof/Laws/State.lean ====
section
/-! SUPPORT. One lemma per field per plain update of the state, true by rfl: a named update leaves every
field but its own. -/

namespace Sys2Proof.Laws

open Sys2Proof.Machine

variable (s : State)

/-! ### beginPasses -/

@[simp] theorem beginPasses_now : (beginPasses s).now = s.now := rfl
@[simp] theorem beginPasses_pending : (beginPasses s).pending = s.pending := rfl
@[simp] theorem beginPasses_tieDraws : (beginPasses s).tieDraws = s.tieDraws := rfl
@[simp] theorem beginPasses_start : (beginPasses s).start = s.start := rfl
@[simp] theorem beginPasses_cfg : (beginPasses s).cfg = s.cfg := rfl
@[simp] theorem beginPasses_line : (beginPasses s).line = s.line := rfl
@[simp] theorem beginPasses_pointer : (beginPasses s).pointer = s.pointer := rfl
@[simp] theorem beginPasses_rx : (beginPasses s).rx = s.rx := rfl
@[simp] theorem beginPasses_cars : (beginPasses s).cars = s.cars := rfl
@[simp] theorem beginPasses_lanterns : (beginPasses s).lanterns = s.lanterns := rfl
@[simp] theorem beginPasses_chime : (beginPasses s).chime = s.chime := rfl
@[simp] theorem beginPasses_keypad : (beginPasses s).keypad = s.keypad := rfl
@[simp] theorem beginPasses_entry : (beginPasses s).entry = s.entry := rfl
@[simp] theorem beginPasses_requests : (beginPasses s).requests = s.requests := rfl
@[simp] theorem beginPasses_prompts : (beginPasses s).prompts = s.prompts := rfl
@[simp] theorem beginPasses_releases : (beginPasses s).releases = s.releases := rfl
@[simp] theorem beginPasses_showFifo : (beginPasses s).showFifo = s.showFifo := rfl
@[simp] theorem beginPasses_claim : (beginPasses s).claim = s.claim := rfl
@[simp] theorem beginPasses_notices : (beginPasses s).notices = s.notices := rfl
@[simp] theorem beginPasses_recallLatch : (beginPasses s).recallLatch = s.recallLatch := rfl
@[simp] theorem beginPasses_power : (beginPasses s).power = s.power := rfl
@[simp] theorem beginPasses_status : (beginPasses s).status = s.status := rfl

/-! ### recompose -/

@[simp] theorem recompose_now : (recompose s).now = s.now := rfl
@[simp] theorem recompose_pending : (recompose s).pending = s.pending := rfl
@[simp] theorem recompose_tieDraws : (recompose s).tieDraws = s.tieDraws := rfl
@[simp] theorem recompose_start : (recompose s).start = s.start := rfl
@[simp] theorem recompose_cfg : (recompose s).cfg = s.cfg := rfl
@[simp] theorem recompose_line : (recompose s).line = s.line := rfl
@[simp] theorem recompose_pointer : (recompose s).pointer = s.pointer := rfl
@[simp] theorem recompose_rx : (recompose s).rx = s.rx := rfl
@[simp] theorem recompose_cars : (recompose s).cars = s.cars := rfl
@[simp] theorem recompose_lanterns : (recompose s).lanterns = s.lanterns := rfl
@[simp] theorem recompose_chime : (recompose s).chime = s.chime := rfl
@[simp] theorem recompose_keypad : (recompose s).keypad = s.keypad := rfl
@[simp] theorem recompose_entry : (recompose s).entry = s.entry := rfl
@[simp] theorem recompose_requests : (recompose s).requests = s.requests := rfl
@[simp] theorem recompose_prompts : (recompose s).prompts = s.prompts := rfl
@[simp] theorem recompose_releases : (recompose s).releases = s.releases := rfl
@[simp] theorem recompose_showFifo : (recompose s).showFifo = s.showFifo := rfl
@[simp] theorem recompose_claim : (recompose s).claim = s.claim := rfl
@[simp] theorem recompose_notices : (recompose s).notices = s.notices := rfl
@[simp] theorem recompose_recallLatch : (recompose s).recallLatch = s.recallLatch := rfl
@[simp] theorem recompose_power : (recompose s).power = s.power := rfl
@[simp] theorem recompose_status : (recompose s).status = s.status := rfl

/-! ### removePrompt -/

@[simp] theorem removePrompt_now (k : AssignKey) : (removePrompt k s).now = s.now := rfl
@[simp] theorem removePrompt_pending (k : AssignKey) : (removePrompt k s).pending = s.pending := rfl
@[simp] theorem removePrompt_tieDraws (k : AssignKey) : (removePrompt k s).tieDraws = s.tieDraws := rfl
@[simp] theorem removePrompt_start (k : AssignKey) : (removePrompt k s).start = s.start := rfl
@[simp] theorem removePrompt_cfg (k : AssignKey) : (removePrompt k s).cfg = s.cfg := rfl
@[simp] theorem removePrompt_line (k : AssignKey) : (removePrompt k s).line = s.line := rfl
@[simp] theorem removePrompt_pointer (k : AssignKey) : (removePrompt k s).pointer = s.pointer := rfl
@[simp] theorem removePrompt_rx (k : AssignKey) : (removePrompt k s).rx = s.rx := rfl
@[simp] theorem removePrompt_cars (k : AssignKey) : (removePrompt k s).cars = s.cars := rfl
@[simp] theorem removePrompt_lanterns (k : AssignKey) : (removePrompt k s).lanterns = s.lanterns := rfl
@[simp] theorem removePrompt_chime (k : AssignKey) : (removePrompt k s).chime = s.chime := rfl
@[simp] theorem removePrompt_keypad (k : AssignKey) : (removePrompt k s).keypad = s.keypad := rfl
@[simp] theorem removePrompt_entry (k : AssignKey) : (removePrompt k s).entry = s.entry := rfl
@[simp] theorem removePrompt_requests (k : AssignKey) : (removePrompt k s).requests = s.requests := rfl
@[simp] theorem removePrompt_releases (k : AssignKey) : (removePrompt k s).releases = s.releases := rfl
@[simp] theorem removePrompt_claim (k : AssignKey) : (removePrompt k s).claim = s.claim := rfl
@[simp] theorem removePrompt_notices (k : AssignKey) : (removePrompt k s).notices = s.notices := rfl
@[simp] theorem removePrompt_recallLatch (k : AssignKey) : (removePrompt k s).recallLatch = s.recallLatch := rfl
@[simp] theorem removePrompt_display (k : AssignKey) : (removePrompt k s).display = s.display := rfl
@[simp] theorem removePrompt_power (k : AssignKey) : (removePrompt k s).power = s.power := rfl
@[simp] theorem removePrompt_status (k : AssignKey) : (removePrompt k s).status = s.status := rfl

/-! ### removeRelease -/

@[simp] theorem removeRelease_now (k : AssignKey) : (removeRelease k s).now = s.now := rfl
@[simp] theorem removeRelease_pending (k : AssignKey) : (removeRelease k s).pending = s.pending := rfl
@[simp] theorem removeRelease_tieDraws (k : AssignKey) : (removeRelease k s).tieDraws = s.tieDraws := rfl
@[simp] theorem removeRelease_start (k : AssignKey) : (removeRelease k s).start = s.start := rfl
@[simp] theorem removeRelease_cfg (k : AssignKey) : (removeRelease k s).cfg = s.cfg := rfl
@[simp] theorem removeRelease_line (k : AssignKey) : (removeRelease k s).line = s.line := rfl
@[simp] theorem removeRelease_pointer (k : AssignKey) : (removeRelease k s).pointer = s.pointer := rfl
@[simp] theorem removeRelease_rx (k : AssignKey) : (removeRelease k s).rx = s.rx := rfl
@[simp] theorem removeRelease_cars (k : AssignKey) : (removeRelease k s).cars = s.cars := rfl
@[simp] theorem removeRelease_lanterns (k : AssignKey) : (removeRelease k s).lanterns = s.lanterns := rfl
@[simp] theorem removeRelease_chime (k : AssignKey) : (removeRelease k s).chime = s.chime := rfl
@[simp] theorem removeRelease_keypad (k : AssignKey) : (removeRelease k s).keypad = s.keypad := rfl
@[simp] theorem removeRelease_entry (k : AssignKey) : (removeRelease k s).entry = s.entry := rfl
@[simp] theorem removeRelease_requests (k : AssignKey) : (removeRelease k s).requests = s.requests := rfl
@[simp] theorem removeRelease_prompts (k : AssignKey) : (removeRelease k s).prompts = s.prompts := rfl
@[simp] theorem removeRelease_claim (k : AssignKey) : (removeRelease k s).claim = s.claim := rfl
@[simp] theorem removeRelease_notices (k : AssignKey) : (removeRelease k s).notices = s.notices := rfl
@[simp] theorem removeRelease_recallLatch (k : AssignKey) : (removeRelease k s).recallLatch = s.recallLatch := rfl
@[simp] theorem removeRelease_display (k : AssignKey) : (removeRelease k s).display = s.display := rfl
@[simp] theorem removeRelease_power (k : AssignKey) : (removeRelease k s).power = s.power := rfl
@[simp] theorem removeRelease_status (k : AssignKey) : (removeRelease k s).status = s.status := rfl

/-! ### ownPrompt -/

@[simp] theorem ownPrompt_now (k : AssignKey) : (ownPrompt k s).now = s.now := rfl
@[simp] theorem ownPrompt_pending (k : AssignKey) : (ownPrompt k s).pending = s.pending := rfl
@[simp] theorem ownPrompt_tieDraws (k : AssignKey) : (ownPrompt k s).tieDraws = s.tieDraws := rfl
@[simp] theorem ownPrompt_start (k : AssignKey) : (ownPrompt k s).start = s.start := rfl
@[simp] theorem ownPrompt_cfg (k : AssignKey) : (ownPrompt k s).cfg = s.cfg := rfl
@[simp] theorem ownPrompt_line (k : AssignKey) : (ownPrompt k s).line = s.line := rfl
@[simp] theorem ownPrompt_pointer (k : AssignKey) : (ownPrompt k s).pointer = s.pointer := rfl
@[simp] theorem ownPrompt_rx (k : AssignKey) : (ownPrompt k s).rx = s.rx := rfl
@[simp] theorem ownPrompt_cars (k : AssignKey) : (ownPrompt k s).cars = s.cars := rfl
@[simp] theorem ownPrompt_lanterns (k : AssignKey) : (ownPrompt k s).lanterns = s.lanterns := rfl
@[simp] theorem ownPrompt_chime (k : AssignKey) : (ownPrompt k s).chime = s.chime := rfl
@[simp] theorem ownPrompt_keypad (k : AssignKey) : (ownPrompt k s).keypad = s.keypad := rfl
@[simp] theorem ownPrompt_entry (k : AssignKey) : (ownPrompt k s).entry = s.entry := rfl
@[simp] theorem ownPrompt_requests (k : AssignKey) : (ownPrompt k s).requests = s.requests := rfl
@[simp] theorem ownPrompt_releases (k : AssignKey) : (ownPrompt k s).releases = s.releases := rfl
@[simp] theorem ownPrompt_showFifo (k : AssignKey) : (ownPrompt k s).showFifo = s.showFifo := rfl
@[simp] theorem ownPrompt_notices (k : AssignKey) : (ownPrompt k s).notices = s.notices := rfl
@[simp] theorem ownPrompt_recallLatch (k : AssignKey) : (ownPrompt k s).recallLatch = s.recallLatch := rfl
@[simp] theorem ownPrompt_display (k : AssignKey) : (ownPrompt k s).display = s.display := rfl
@[simp] theorem ownPrompt_power (k : AssignKey) : (ownPrompt k s).power = s.power := rfl
@[simp] theorem ownPrompt_status (k : AssignKey) : (ownPrompt k s).status = s.status := rfl

/-! ### bufferRelease -/

@[simp] theorem bufferRelease_now (d : Nat) (k : AssignKey) : (bufferRelease d k s).now = s.now := rfl
@[simp] theorem bufferRelease_pending (d : Nat) (k : AssignKey) : (bufferRelease d k s).pending = s.pending := rfl
@[simp] theorem bufferRelease_tieDraws (d : Nat) (k : AssignKey) : (bufferRelease d k s).tieDraws = s.tieDraws := rfl
@[simp] theorem bufferRelease_start (d : Nat) (k : AssignKey) : (bufferRelease d k s).start = s.start := rfl
@[simp] theorem bufferRelease_cfg (d : Nat) (k : AssignKey) : (bufferRelease d k s).cfg = s.cfg := rfl
@[simp] theorem bufferRelease_line (d : Nat) (k : AssignKey) : (bufferRelease d k s).line = s.line := rfl
@[simp] theorem bufferRelease_pointer (d : Nat) (k : AssignKey) : (bufferRelease d k s).pointer = s.pointer := rfl
@[simp] theorem bufferRelease_rx (d : Nat) (k : AssignKey) : (bufferRelease d k s).rx = s.rx := rfl
@[simp] theorem bufferRelease_cars (d : Nat) (k : AssignKey) : (bufferRelease d k s).cars = s.cars := rfl
@[simp] theorem bufferRelease_lanterns (d : Nat) (k : AssignKey) : (bufferRelease d k s).lanterns = s.lanterns := rfl
@[simp] theorem bufferRelease_chime (d : Nat) (k : AssignKey) : (bufferRelease d k s).chime = s.chime := rfl
@[simp] theorem bufferRelease_keypad (d : Nat) (k : AssignKey) : (bufferRelease d k s).keypad = s.keypad := rfl
@[simp] theorem bufferRelease_entry (d : Nat) (k : AssignKey) : (bufferRelease d k s).entry = s.entry := rfl
@[simp] theorem bufferRelease_requests (d : Nat) (k : AssignKey) : (bufferRelease d k s).requests = s.requests := rfl
@[simp] theorem bufferRelease_prompts (d : Nat) (k : AssignKey) : (bufferRelease d k s).prompts = s.prompts := rfl
@[simp] theorem bufferRelease_claim (d : Nat) (k : AssignKey) : (bufferRelease d k s).claim = s.claim := rfl
@[simp] theorem bufferRelease_notices (d : Nat) (k : AssignKey) : (bufferRelease d k s).notices = s.notices := rfl
@[simp] theorem bufferRelease_recallLatch (d : Nat) (k : AssignKey) : (bufferRelease d k s).recallLatch = s.recallLatch := rfl
@[simp] theorem bufferRelease_display (d : Nat) (k : AssignKey) : (bufferRelease d k s).display = s.display := rfl
@[simp] theorem bufferRelease_power (d : Nat) (k : AssignKey) : (bufferRelease d k s).power = s.power := rfl
@[simp] theorem bufferRelease_status (d : Nat) (k : AssignKey) : (bufferRelease d k s).status = s.status := rfl

/-! ### phaseTests -/

@[simp] theorem phaseTests_now (sel : PromptRecord → Bool) : (phaseTests sel s).now = s.now := rfl
@[simp] theorem phaseTests_pending (sel : PromptRecord → Bool) : (phaseTests sel s).pending = s.pending := rfl
@[simp] theorem phaseTests_tieDraws (sel : PromptRecord → Bool) : (phaseTests sel s).tieDraws = s.tieDraws := rfl
@[simp] theorem phaseTests_start (sel : PromptRecord → Bool) : (phaseTests sel s).start = s.start := rfl
@[simp] theorem phaseTests_cfg (sel : PromptRecord → Bool) : (phaseTests sel s).cfg = s.cfg := rfl
@[simp] theorem phaseTests_line (sel : PromptRecord → Bool) : (phaseTests sel s).line = s.line := rfl
@[simp] theorem phaseTests_pointer (sel : PromptRecord → Bool) : (phaseTests sel s).pointer = s.pointer := rfl
@[simp] theorem phaseTests_rx (sel : PromptRecord → Bool) : (phaseTests sel s).rx = s.rx := rfl
@[simp] theorem phaseTests_cars (sel : PromptRecord → Bool) : (phaseTests sel s).cars = s.cars := rfl
@[simp] theorem phaseTests_lanterns (sel : PromptRecord → Bool) : (phaseTests sel s).lanterns = s.lanterns := rfl
@[simp] theorem phaseTests_chime (sel : PromptRecord → Bool) : (phaseTests sel s).chime = s.chime := rfl
@[simp] theorem phaseTests_keypad (sel : PromptRecord → Bool) : (phaseTests sel s).keypad = s.keypad := rfl
@[simp] theorem phaseTests_entry (sel : PromptRecord → Bool) : (phaseTests sel s).entry = s.entry := rfl
@[simp] theorem phaseTests_requests (sel : PromptRecord → Bool) : (phaseTests sel s).requests = s.requests := rfl
@[simp] theorem phaseTests_releases (sel : PromptRecord → Bool) : (phaseTests sel s).releases = s.releases := rfl
@[simp] theorem phaseTests_claim (sel : PromptRecord → Bool) : (phaseTests sel s).claim = s.claim := rfl
@[simp] theorem phaseTests_notices (sel : PromptRecord → Bool) : (phaseTests sel s).notices = s.notices := rfl
@[simp] theorem phaseTests_recallLatch (sel : PromptRecord → Bool) : (phaseTests sel s).recallLatch = s.recallLatch := rfl
@[simp] theorem phaseTests_display (sel : PromptRecord → Bool) : (phaseTests sel s).display = s.display := rfl
@[simp] theorem phaseTests_power (sel : PromptRecord → Bool) : (phaseTests sel s).power = s.power := rfl
@[simp] theorem phaseTests_status (sel : PromptRecord → Bool) : (phaseTests sel s).status = s.status := rfl

/-! ### testLanterns -/

@[simp] theorem testLanterns_now (sel : CarKey → Bool) : (testLanterns sel s).now = s.now := rfl
@[simp] theorem testLanterns_pending (sel : CarKey → Bool) : (testLanterns sel s).pending = s.pending := rfl
@[simp] theorem testLanterns_tieDraws (sel : CarKey → Bool) : (testLanterns sel s).tieDraws = s.tieDraws := rfl
@[simp] theorem testLanterns_start (sel : CarKey → Bool) : (testLanterns sel s).start = s.start := rfl
@[simp] theorem testLanterns_cfg (sel : CarKey → Bool) : (testLanterns sel s).cfg = s.cfg := rfl
@[simp] theorem testLanterns_line (sel : CarKey → Bool) : (testLanterns sel s).line = s.line := rfl
@[simp] theorem testLanterns_pointer (sel : CarKey → Bool) : (testLanterns sel s).pointer = s.pointer := rfl
@[simp] theorem testLanterns_rx (sel : CarKey → Bool) : (testLanterns sel s).rx = s.rx := rfl
@[simp] theorem testLanterns_cars (sel : CarKey → Bool) : (testLanterns sel s).cars = s.cars := rfl
@[simp] theorem testLanterns_keypad (sel : CarKey → Bool) : (testLanterns sel s).keypad = s.keypad := rfl
@[simp] theorem testLanterns_entry (sel : CarKey → Bool) : (testLanterns sel s).entry = s.entry := rfl
@[simp] theorem testLanterns_requests (sel : CarKey → Bool) : (testLanterns sel s).requests = s.requests := rfl
@[simp] theorem testLanterns_prompts (sel : CarKey → Bool) : (testLanterns sel s).prompts = s.prompts := rfl
@[simp] theorem testLanterns_releases (sel : CarKey → Bool) : (testLanterns sel s).releases = s.releases := rfl
@[simp] theorem testLanterns_showFifo (sel : CarKey → Bool) : (testLanterns sel s).showFifo = s.showFifo := rfl
@[simp] theorem testLanterns_claim (sel : CarKey → Bool) : (testLanterns sel s).claim = s.claim := rfl
@[simp] theorem testLanterns_notices (sel : CarKey → Bool) : (testLanterns sel s).notices = s.notices := rfl
@[simp] theorem testLanterns_recallLatch (sel : CarKey → Bool) : (testLanterns sel s).recallLatch = s.recallLatch := rfl
@[simp] theorem testLanterns_display (sel : CarKey → Bool) : (testLanterns sel s).display = s.display := rfl
@[simp] theorem testLanterns_power (sel : CarKey → Bool) : (testLanterns sel s).power = s.power := rfl
@[simp] theorem testLanterns_status (sel : CarKey → Bool) : (testLanterns sel s).status = s.status := rfl

/-! ### drainEntry -/

@[simp] theorem drainEntry_now : (drainEntry s).now = s.now := rfl
@[simp] theorem drainEntry_pending : (drainEntry s).pending = s.pending := rfl
@[simp] theorem drainEntry_tieDraws : (drainEntry s).tieDraws = s.tieDraws := rfl
@[simp] theorem drainEntry_start : (drainEntry s).start = s.start := rfl
@[simp] theorem drainEntry_cfg : (drainEntry s).cfg = s.cfg := rfl
@[simp] theorem drainEntry_line : (drainEntry s).line = s.line := rfl
@[simp] theorem drainEntry_pointer : (drainEntry s).pointer = s.pointer := rfl
@[simp] theorem drainEntry_rx : (drainEntry s).rx = s.rx := rfl
@[simp] theorem drainEntry_cars : (drainEntry s).cars = s.cars := rfl
@[simp] theorem drainEntry_lanterns : (drainEntry s).lanterns = s.lanterns := rfl
@[simp] theorem drainEntry_chime : (drainEntry s).chime = s.chime := rfl
@[simp] theorem drainEntry_keypad : (drainEntry s).keypad = s.keypad := rfl
@[simp] theorem drainEntry_entry : (drainEntry s).entry = s.entry := rfl
@[simp] theorem drainEntry_claim : (drainEntry s).claim = s.claim := rfl
@[simp] theorem drainEntry_notices : (drainEntry s).notices = s.notices := rfl
@[simp] theorem drainEntry_recallLatch : (drainEntry s).recallLatch = s.recallLatch := rfl
@[simp] theorem drainEntry_display : (drainEntry s).display = s.display := rfl
@[simp] theorem drainEntry_status : (drainEntry s).status = s.status := rfl

/-! ### idleDrain -/

/-- An idle drain is a drain whose instant is kept (R180). -/
theorem idleDrain_eq :
    idleDrain s =
      { drainEntry s with power := { (drainEntry s).power with idleDrainAt := some s.now } } := rfl

@[simp] theorem idleDrain_mode : (idleDrain s).power.mode = .draining := rfl
@[simp] theorem idleDrain_idleDrainAt : (idleDrain s).power.idleDrainAt = some s.now := rfl
@[simp] theorem drainEntry_idleDrainAt : (drainEntry s).power.idleDrainAt = none := rfl
@[simp] theorem idleDrain_now : (idleDrain s).now = s.now := rfl
@[simp] theorem idleDrain_pending : (idleDrain s).pending = s.pending := rfl
@[simp] theorem idleDrain_tieDraws : (idleDrain s).tieDraws = s.tieDraws := rfl
@[simp] theorem idleDrain_start : (idleDrain s).start = s.start := rfl
@[simp] theorem idleDrain_cfg : (idleDrain s).cfg = s.cfg := rfl
@[simp] theorem idleDrain_line : (idleDrain s).line = s.line := rfl
@[simp] theorem idleDrain_pointer : (idleDrain s).pointer = s.pointer := rfl
@[simp] theorem idleDrain_rx : (idleDrain s).rx = s.rx := rfl
@[simp] theorem idleDrain_cars : (idleDrain s).cars = s.cars := rfl
@[simp] theorem idleDrain_lanterns : (idleDrain s).lanterns = s.lanterns := rfl
@[simp] theorem idleDrain_chime : (idleDrain s).chime = s.chime := rfl
@[simp] theorem idleDrain_keypad : (idleDrain s).keypad = s.keypad := rfl
@[simp] theorem idleDrain_entry : (idleDrain s).entry = s.entry := rfl
@[simp] theorem idleDrain_claim : (idleDrain s).claim = s.claim := rfl
@[simp] theorem idleDrain_notices : (idleDrain s).notices = s.notices := rfl
@[simp] theorem idleDrain_recallLatch : (idleDrain s).recallLatch = s.recallLatch := rfl
@[simp] theorem idleDrain_display : (idleDrain s).display = s.display := rfl
@[simp] theorem idleDrain_status : (idleDrain s).status = s.status := rfl
@[simp] theorem idleDrain_prompts : (idleDrain s).prompts = (drainEntry s).prompts := rfl
@[simp] theorem idleDrain_releases : (idleDrain s).releases = (drainEntry s).releases := rfl
@[simp] theorem idleDrain_showFifo : (idleDrain s).showFifo = (drainEntry s).showFifo := rfl
@[simp] theorem idleDrain_requests : (idleDrain s).requests = (drainEntry s).requests := rfl

/-! ### dormantEntry -/

@[simp] theorem dormantEntry_now : (dormantEntry s).now = s.now := rfl
@[simp] theorem dormantEntry_pending : (dormantEntry s).pending = s.pending := rfl
@[simp] theorem dormantEntry_tieDraws : (dormantEntry s).tieDraws = s.tieDraws := rfl
@[simp] theorem dormantEntry_start : (dormantEntry s).start = s.start := rfl
@[simp] theorem dormantEntry_cfg : (dormantEntry s).cfg = s.cfg := rfl
@[simp] theorem dormantEntry_line : (dormantEntry s).line = s.line := rfl
@[simp] theorem dormantEntry_pointer : (dormantEntry s).pointer = s.pointer := rfl
@[simp] theorem dormantEntry_rx : (dormantEntry s).rx = s.rx := rfl
@[simp] theorem dormantEntry_keypad : (dormantEntry s).keypad = s.keypad := rfl
@[simp] theorem dormantEntry_claim : (dormantEntry s).claim = s.claim := rfl
@[simp] theorem dormantEntry_notices : (dormantEntry s).notices = s.notices := rfl
@[simp] theorem dormantEntry_recallLatch : (dormantEntry s).recallLatch = s.recallLatch := rfl
@[simp] theorem dormantEntry_status : (dormantEntry s).status = s.status := rfl

/-! ### endAttempt -/

@[simp] theorem endAttempt_now : (endAttempt s).now = s.now := rfl
@[simp] theorem endAttempt_pending : (endAttempt s).pending = s.pending := rfl
@[simp] theorem endAttempt_tieDraws : (endAttempt s).tieDraws = s.tieDraws := rfl
@[simp] theorem endAttempt_start : (endAttempt s).start = s.start := rfl
@[simp] theorem endAttempt_cfg : (endAttempt s).cfg = s.cfg := rfl
@[simp] theorem endAttempt_pointer : (endAttempt s).pointer = s.pointer := rfl
@[simp] theorem endAttempt_rx : (endAttempt s).rx = s.rx := rfl
@[simp] theorem endAttempt_cars : (endAttempt s).cars = s.cars := rfl
@[simp] theorem endAttempt_lanterns : (endAttempt s).lanterns = s.lanterns := rfl
@[simp] theorem endAttempt_chime : (endAttempt s).chime = s.chime := rfl
@[simp] theorem endAttempt_keypad : (endAttempt s).keypad = s.keypad := rfl
@[simp] theorem endAttempt_entry : (endAttempt s).entry = s.entry := rfl
@[simp] theorem endAttempt_requests : (endAttempt s).requests = s.requests := rfl
@[simp] theorem endAttempt_prompts : (endAttempt s).prompts = s.prompts := rfl
@[simp] theorem endAttempt_releases : (endAttempt s).releases = s.releases := rfl
@[simp] theorem endAttempt_claim : (endAttempt s).claim = s.claim := rfl
@[simp] theorem endAttempt_notices : (endAttempt s).notices = s.notices := rfl
@[simp] theorem endAttempt_recallLatch : (endAttempt s).recallLatch = s.recallLatch := rfl
@[simp] theorem endAttempt_display : (endAttempt s).display = s.display := rfl
@[simp] theorem endAttempt_power : (endAttempt s).power = s.power := rfl
@[simp] theorem endAttempt_status : (endAttempt s).status = s.status := rfl

/-! ### reqWon -/

@[simp] theorem reqWon_now (tag : Nat) : (reqWon tag s).now = s.now := rfl
@[simp] theorem reqWon_pending (tag : Nat) : (reqWon tag s).pending = s.pending := rfl
@[simp] theorem reqWon_tieDraws (tag : Nat) : (reqWon tag s).tieDraws = s.tieDraws := rfl
@[simp] theorem reqWon_start (tag : Nat) : (reqWon tag s).start = s.start := rfl
@[simp] theorem reqWon_cfg (tag : Nat) : (reqWon tag s).cfg = s.cfg := rfl
@[simp] theorem reqWon_line (tag : Nat) : (reqWon tag s).line = s.line := rfl
@[simp] theorem reqWon_pointer (tag : Nat) : (reqWon tag s).pointer = s.pointer := rfl
@[simp] theorem reqWon_rx (tag : Nat) : (reqWon tag s).rx = s.rx := rfl
@[simp] theorem reqWon_cars (tag : Nat) : (reqWon tag s).cars = s.cars := rfl
@[simp] theorem reqWon_lanterns (tag : Nat) : (reqWon tag s).lanterns = s.lanterns := rfl
@[simp] theorem reqWon_chime (tag : Nat) : (reqWon tag s).chime = s.chime := rfl
@[simp] theorem reqWon_keypad (tag : Nat) : (reqWon tag s).keypad = s.keypad := rfl
@[simp] theorem reqWon_entry (tag : Nat) : (reqWon tag s).entry = s.entry := rfl
@[simp] theorem reqWon_prompts (tag : Nat) : (reqWon tag s).prompts = s.prompts := rfl
@[simp] theorem reqWon_releases (tag : Nat) : (reqWon tag s).releases = s.releases := rfl
@[simp] theorem reqWon_showFifo (tag : Nat) : (reqWon tag s).showFifo = s.showFifo := rfl
@[simp] theorem reqWon_claim (tag : Nat) : (reqWon tag s).claim = s.claim := rfl
@[simp] theorem reqWon_notices (tag : Nat) : (reqWon tag s).notices = s.notices := rfl
@[simp] theorem reqWon_recallLatch (tag : Nat) : (reqWon tag s).recallLatch = s.recallLatch := rfl
@[simp] theorem reqWon_display (tag : Nat) : (reqWon tag s).display = s.display := rfl
@[simp] theorem reqWon_power (tag : Nat) : (reqWon tag s).power = s.power := rfl
@[simp] theorem reqWon_status (tag : Nat) : (reqWon tag s).status = s.status := rfl

/-! ### statWon -/

@[simp] theorem statWon_now : (statWon s).now = s.now := rfl
@[simp] theorem statWon_pending : (statWon s).pending = s.pending := rfl
@[simp] theorem statWon_tieDraws : (statWon s).tieDraws = s.tieDraws := rfl
@[simp] theorem statWon_start : (statWon s).start = s.start := rfl
@[simp] theorem statWon_cfg : (statWon s).cfg = s.cfg := rfl
@[simp] theorem statWon_line : (statWon s).line = s.line := rfl
@[simp] theorem statWon_pointer : (statWon s).pointer = s.pointer := rfl
@[simp] theorem statWon_rx : (statWon s).rx = s.rx := rfl
@[simp] theorem statWon_cars : (statWon s).cars = s.cars := rfl
@[simp] theorem statWon_lanterns : (statWon s).lanterns = s.lanterns := rfl
@[simp] theorem statWon_chime : (statWon s).chime = s.chime := rfl
@[simp] theorem statWon_keypad : (statWon s).keypad = s.keypad := rfl
@[simp] theorem statWon_entry : (statWon s).entry = s.entry := rfl
@[simp] theorem statWon_requests : (statWon s).requests = s.requests := rfl
@[simp] theorem statWon_prompts : (statWon s).prompts = s.prompts := rfl
@[simp] theorem statWon_releases : (statWon s).releases = s.releases := rfl
@[simp] theorem statWon_showFifo : (statWon s).showFifo = s.showFifo := rfl
@[simp] theorem statWon_claim : (statWon s).claim = s.claim := rfl
@[simp] theorem statWon_notices : (statWon s).notices = s.notices := rfl
@[simp] theorem statWon_recallLatch : (statWon s).recallLatch = s.recallLatch := rfl
@[simp] theorem statWon_display : (statWon s).display = s.display := rfl
@[simp] theorem statWon_power : (statWon s).power = s.power := rfl

/-! ### makePrompt -/

@[simp] theorem makePrompt_now (c : PromptContent) (time : Nat) : (makePrompt c time s).now = s.now := rfl
@[simp] theorem makePrompt_pending (c : PromptContent) (time : Nat) : (makePrompt c time s).pending = s.pending := rfl
@[simp] theorem makePrompt_tieDraws (c : PromptContent) (time : Nat) : (makePrompt c time s).tieDraws = s.tieDraws := rfl
@[simp] theorem makePrompt_start (c : PromptContent) (time : Nat) : (makePrompt c time s).start = s.start := rfl
@[simp] theorem makePrompt_cfg (c : PromptContent) (time : Nat) : (makePrompt c time s).cfg = s.cfg := rfl
@[simp] theorem makePrompt_line (c : PromptContent) (time : Nat) : (makePrompt c time s).line = s.line := rfl
@[simp] theorem makePrompt_pointer (c : PromptContent) (time : Nat) : (makePrompt c time s).pointer = s.pointer := rfl
@[simp] theorem makePrompt_rx (c : PromptContent) (time : Nat) : (makePrompt c time s).rx = s.rx := rfl
@[simp] theorem makePrompt_cars (c : PromptContent) (time : Nat) : (makePrompt c time s).cars = s.cars := rfl
@[simp] theorem makePrompt_lanterns (c : PromptContent) (time : Nat) : (makePrompt c time s).lanterns = s.lanterns := rfl
@[simp] theorem makePrompt_chime (c : PromptContent) (time : Nat) : (makePrompt c time s).chime = s.chime := rfl
@[simp] theorem makePrompt_keypad (c : PromptContent) (time : Nat) : (makePrompt c time s).keypad = s.keypad := rfl
@[simp] theorem makePrompt_requests (c : PromptContent) (time : Nat) : (makePrompt c time s).requests = s.requests := rfl
@[simp] theorem makePrompt_prompts (c : PromptContent) (time : Nat) : (makePrompt c time s).prompts = s.prompts := rfl
@[simp] theorem makePrompt_releases (c : PromptContent) (time : Nat) : (makePrompt c time s).releases = s.releases := rfl
@[simp] theorem makePrompt_showFifo (c : PromptContent) (time : Nat) : (makePrompt c time s).showFifo = s.showFifo := rfl
@[simp] theorem makePrompt_claim (c : PromptContent) (time : Nat) : (makePrompt c time s).claim = s.claim := rfl
@[simp] theorem makePrompt_notices (c : PromptContent) (time : Nat) : (makePrompt c time s).notices = s.notices := rfl
@[simp] theorem makePrompt_recallLatch (c : PromptContent) (time : Nat) : (makePrompt c time s).recallLatch = s.recallLatch := rfl
@[simp] theorem makePrompt_display (c : PromptContent) (time : Nat) : (makePrompt c time s).display = s.display := rfl
@[simp] theorem makePrompt_power (c : PromptContent) (time : Nat) : (makePrompt c time s).power = s.power := rfl
@[simp] theorem makePrompt_status (c : PromptContent) (time : Nat) : (makePrompt c time s).status = s.status := rfl

/-! ### withSlot -/

@[simp] theorem withSlot_now (t : Slot) (x : TextSlot) : (withSlot t x s).now = s.now := rfl
@[simp] theorem withSlot_pending (t : Slot) (x : TextSlot) : (withSlot t x s).pending = s.pending := rfl
@[simp] theorem withSlot_tieDraws (t : Slot) (x : TextSlot) : (withSlot t x s).tieDraws = s.tieDraws := rfl
@[simp] theorem withSlot_start (t : Slot) (x : TextSlot) : (withSlot t x s).start = s.start := rfl
@[simp] theorem withSlot_cfg (t : Slot) (x : TextSlot) : (withSlot t x s).cfg = s.cfg := rfl
@[simp] theorem withSlot_line (t : Slot) (x : TextSlot) : (withSlot t x s).line = s.line := rfl
@[simp] theorem withSlot_pointer (t : Slot) (x : TextSlot) : (withSlot t x s).pointer = s.pointer := rfl
@[simp] theorem withSlot_rx (t : Slot) (x : TextSlot) : (withSlot t x s).rx = s.rx := rfl
@[simp] theorem withSlot_cars (t : Slot) (x : TextSlot) : (withSlot t x s).cars = s.cars := rfl
@[simp] theorem withSlot_lanterns (t : Slot) (x : TextSlot) : (withSlot t x s).lanterns = s.lanterns := rfl
@[simp] theorem withSlot_chime (t : Slot) (x : TextSlot) : (withSlot t x s).chime = s.chime := rfl
@[simp] theorem withSlot_keypad (t : Slot) (x : TextSlot) : (withSlot t x s).keypad = s.keypad := rfl
@[simp] theorem withSlot_entry (t : Slot) (x : TextSlot) : (withSlot t x s).entry = s.entry := rfl
@[simp] theorem withSlot_requests (t : Slot) (x : TextSlot) : (withSlot t x s).requests = s.requests := rfl
@[simp] theorem withSlot_prompts (t : Slot) (x : TextSlot) : (withSlot t x s).prompts = s.prompts := rfl
@[simp] theorem withSlot_releases (t : Slot) (x : TextSlot) : (withSlot t x s).releases = s.releases := rfl
@[simp] theorem withSlot_showFifo (t : Slot) (x : TextSlot) : (withSlot t x s).showFifo = s.showFifo := rfl
@[simp] theorem withSlot_claim (t : Slot) (x : TextSlot) : (withSlot t x s).claim = s.claim := rfl
@[simp] theorem withSlot_recallLatch (t : Slot) (x : TextSlot) : (withSlot t x s).recallLatch = s.recallLatch := rfl
@[simp] theorem withSlot_display (t : Slot) (x : TextSlot) : (withSlot t x s).display = s.display := rfl
@[simp] theorem withSlot_power (t : Slot) (x : TextSlot) : (withSlot t x s).power = s.power := rfl
@[simp] theorem withSlot_status (t : Slot) (x : TextSlot) : (withSlot t x s).status = s.status := rfl

/-! ### telegramEnds -/

@[simp] theorem telegramEnds_now : (telegramEnds s).now = s.now := rfl
@[simp] theorem telegramEnds_pending : (telegramEnds s).pending = s.pending := rfl
@[simp] theorem telegramEnds_tieDraws : (telegramEnds s).tieDraws = s.tieDraws := rfl
@[simp] theorem telegramEnds_start : (telegramEnds s).start = s.start := rfl
@[simp] theorem telegramEnds_cfg : (telegramEnds s).cfg = s.cfg := rfl
@[simp] theorem telegramEnds_pointer : (telegramEnds s).pointer = s.pointer := rfl
@[simp] theorem telegramEnds_rx : (telegramEnds s).rx = s.rx := rfl
@[simp] theorem telegramEnds_cars : (telegramEnds s).cars = s.cars := rfl
@[simp] theorem telegramEnds_lanterns : (telegramEnds s).lanterns = s.lanterns := rfl
@[simp] theorem telegramEnds_chime : (telegramEnds s).chime = s.chime := rfl
@[simp] theorem telegramEnds_keypad : (telegramEnds s).keypad = s.keypad := rfl
@[simp] theorem telegramEnds_entry : (telegramEnds s).entry = s.entry := rfl
@[simp] theorem telegramEnds_requests : (telegramEnds s).requests = s.requests := rfl
@[simp] theorem telegramEnds_prompts : (telegramEnds s).prompts = s.prompts := rfl
@[simp] theorem telegramEnds_releases : (telegramEnds s).releases = s.releases := rfl
@[simp] theorem telegramEnds_showFifo : (telegramEnds s).showFifo = s.showFifo := rfl
@[simp] theorem telegramEnds_claim : (telegramEnds s).claim = s.claim := rfl
@[simp] theorem telegramEnds_notices : (telegramEnds s).notices = s.notices := rfl
@[simp] theorem telegramEnds_recallLatch : (telegramEnds s).recallLatch = s.recallLatch := rfl
@[simp] theorem telegramEnds_display : (telegramEnds s).display = s.display := rfl
@[simp] theorem telegramEnds_power : (telegramEnds s).power = s.power := rfl
@[simp] theorem telegramEnds_status : (telegramEnds s).status = s.status := rfl

/-! ### lineGoesIdle -/

@[simp] theorem lineGoesIdle_now : (lineGoesIdle s).now = s.now := rfl
@[simp] theorem lineGoesIdle_pending : (lineGoesIdle s).pending = s.pending := rfl
@[simp] theorem lineGoesIdle_tieDraws : (lineGoesIdle s).tieDraws = s.tieDraws := rfl
@[simp] theorem lineGoesIdle_start : (lineGoesIdle s).start = s.start := rfl
@[simp] theorem lineGoesIdle_cfg : (lineGoesIdle s).cfg = s.cfg := rfl
@[simp] theorem lineGoesIdle_pointer : (lineGoesIdle s).pointer = s.pointer := rfl
@[simp] theorem lineGoesIdle_rx : (lineGoesIdle s).rx = s.rx := rfl
@[simp] theorem lineGoesIdle_cars : (lineGoesIdle s).cars = s.cars := rfl
@[simp] theorem lineGoesIdle_lanterns : (lineGoesIdle s).lanterns = s.lanterns := rfl
@[simp] theorem lineGoesIdle_chime : (lineGoesIdle s).chime = s.chime := rfl
@[simp] theorem lineGoesIdle_keypad : (lineGoesIdle s).keypad = s.keypad := rfl
@[simp] theorem lineGoesIdle_entry : (lineGoesIdle s).entry = s.entry := rfl
@[simp] theorem lineGoesIdle_requests : (lineGoesIdle s).requests = s.requests := rfl
@[simp] theorem lineGoesIdle_prompts : (lineGoesIdle s).prompts = s.prompts := rfl
@[simp] theorem lineGoesIdle_releases : (lineGoesIdle s).releases = s.releases := rfl
@[simp] theorem lineGoesIdle_showFifo : (lineGoesIdle s).showFifo = s.showFifo := rfl
@[simp] theorem lineGoesIdle_claim : (lineGoesIdle s).claim = s.claim := rfl
@[simp] theorem lineGoesIdle_notices : (lineGoesIdle s).notices = s.notices := rfl
@[simp] theorem lineGoesIdle_recallLatch : (lineGoesIdle s).recallLatch = s.recallLatch := rfl
@[simp] theorem lineGoesIdle_display : (lineGoesIdle s).display = s.display := rfl
@[simp] theorem lineGoesIdle_power : (lineGoesIdle s).power = s.power := rfl
@[simp] theorem lineGoesIdle_status : (lineGoesIdle s).status = s.status := rfl

/-! ### queueTake -/

@[simp] theorem queueTake_now (k : AssignKey) : (queueTake k s).now = s.now := rfl
@[simp] theorem queueTake_pending (k : AssignKey) : (queueTake k s).pending = s.pending := rfl
@[simp] theorem queueTake_tieDraws (k : AssignKey) : (queueTake k s).tieDraws = s.tieDraws := rfl
@[simp] theorem queueTake_start (k : AssignKey) : (queueTake k s).start = s.start := rfl
@[simp] theorem queueTake_cfg (k : AssignKey) : (queueTake k s).cfg = s.cfg := rfl
@[simp] theorem queueTake_line (k : AssignKey) : (queueTake k s).line = s.line := rfl
@[simp] theorem queueTake_pointer (k : AssignKey) : (queueTake k s).pointer = s.pointer := rfl
@[simp] theorem queueTake_rx (k : AssignKey) : (queueTake k s).rx = s.rx := rfl
@[simp] theorem queueTake_cars (k : AssignKey) : (queueTake k s).cars = s.cars := rfl
@[simp] theorem queueTake_lanterns (k : AssignKey) : (queueTake k s).lanterns = s.lanterns := rfl
@[simp] theorem queueTake_chime (k : AssignKey) : (queueTake k s).chime = s.chime := rfl
@[simp] theorem queueTake_keypad (k : AssignKey) : (queueTake k s).keypad = s.keypad := rfl
@[simp] theorem queueTake_entry (k : AssignKey) : (queueTake k s).entry = s.entry := rfl
@[simp] theorem queueTake_requests (k : AssignKey) : (queueTake k s).requests = s.requests := rfl
@[simp] theorem queueTake_releases (k : AssignKey) : (queueTake k s).releases = s.releases := rfl
@[simp] theorem queueTake_claim (k : AssignKey) : (queueTake k s).claim = s.claim := rfl
@[simp] theorem queueTake_notices (k : AssignKey) : (queueTake k s).notices = s.notices := rfl
@[simp] theorem queueTake_recallLatch (k : AssignKey) : (queueTake k s).recallLatch = s.recallLatch := rfl
@[simp] theorem queueTake_display (k : AssignKey) : (queueTake k s).display = s.display := rfl
@[simp] theorem queueTake_power (k : AssignKey) : (queueTake k s).power = s.power := rfl
@[simp] theorem queueTake_status (k : AssignKey) : (queueTake k s).status = s.status := rfl

/-! ### watchPending -/

@[simp] theorem watchPending_now (a : Nat) (k : AssignKey) : (watchPending a k s).now = s.now := rfl
@[simp] theorem watchPending_pending (a : Nat) (k : AssignKey) : (watchPending a k s).pending = s.pending := rfl
@[simp] theorem watchPending_tieDraws (a : Nat) (k : AssignKey) : (watchPending a k s).tieDraws = s.tieDraws := rfl
@[simp] theorem watchPending_start (a : Nat) (k : AssignKey) : (watchPending a k s).start = s.start := rfl
@[simp] theorem watchPending_cfg (a : Nat) (k : AssignKey) : (watchPending a k s).cfg = s.cfg := rfl
@[simp] theorem watchPending_line (a : Nat) (k : AssignKey) : (watchPending a k s).line = s.line := rfl
@[simp] theorem watchPending_pointer (a : Nat) (k : AssignKey) : (watchPending a k s).pointer = s.pointer := rfl
@[simp] theorem watchPending_rx (a : Nat) (k : AssignKey) : (watchPending a k s).rx = s.rx := rfl
@[simp] theorem watchPending_cars (a : Nat) (k : AssignKey) : (watchPending a k s).cars = s.cars := rfl
@[simp] theorem watchPending_lanterns (a : Nat) (k : AssignKey) : (watchPending a k s).lanterns = s.lanterns := rfl
@[simp] theorem watchPending_chime (a : Nat) (k : AssignKey) : (watchPending a k s).chime = s.chime := rfl
@[simp] theorem watchPending_keypad (a : Nat) (k : AssignKey) : (watchPending a k s).keypad = s.keypad := rfl
@[simp] theorem watchPending_entry (a : Nat) (k : AssignKey) : (watchPending a k s).entry = s.entry := rfl
@[simp] theorem watchPending_requests (a : Nat) (k : AssignKey) : (watchPending a k s).requests = s.requests := rfl
@[simp] theorem watchPending_releases (a : Nat) (k : AssignKey) : (watchPending a k s).releases = s.releases := rfl
@[simp] theorem watchPending_claim (a : Nat) (k : AssignKey) : (watchPending a k s).claim = s.claim := rfl
@[simp] theorem watchPending_notices (a : Nat) (k : AssignKey) : (watchPending a k s).notices = s.notices := rfl
@[simp] theorem watchPending_recallLatch (a : Nat) (k : AssignKey) : (watchPending a k s).recallLatch = s.recallLatch := rfl
@[simp] theorem watchPending_display (a : Nat) (k : AssignKey) : (watchPending a k s).display = s.display := rfl
@[simp] theorem watchPending_power (a : Nat) (k : AssignKey) : (watchPending a k s).power = s.power := rfl
@[simp] theorem watchPending_status (a : Nat) (k : AssignKey) : (watchPending a k s).status = s.status := rfl

/-! ### peerRelease -/

@[simp] theorem peerRelease_now (a : Nat) (k : AssignKey) : (peerRelease a k s).now = s.now := rfl
@[simp] theorem peerRelease_pending (a : Nat) (k : AssignKey) : (peerRelease a k s).pending = s.pending := rfl
@[simp] theorem peerRelease_tieDraws (a : Nat) (k : AssignKey) : (peerRelease a k s).tieDraws = s.tieDraws := rfl
@[simp] theorem peerRelease_start (a : Nat) (k : AssignKey) : (peerRelease a k s).start = s.start := rfl
@[simp] theorem peerRelease_cfg (a : Nat) (k : AssignKey) : (peerRelease a k s).cfg = s.cfg := rfl
@[simp] theorem peerRelease_line (a : Nat) (k : AssignKey) : (peerRelease a k s).line = s.line := rfl
@[simp] theorem peerRelease_pointer (a : Nat) (k : AssignKey) : (peerRelease a k s).pointer = s.pointer := rfl
@[simp] theorem peerRelease_rx (a : Nat) (k : AssignKey) : (peerRelease a k s).rx = s.rx := rfl
@[simp] theorem peerRelease_cars (a : Nat) (k : AssignKey) : (peerRelease a k s).cars = s.cars := rfl
@[simp] theorem peerRelease_lanterns (a : Nat) (k : AssignKey) : (peerRelease a k s).lanterns = s.lanterns := rfl
@[simp] theorem peerRelease_chime (a : Nat) (k : AssignKey) : (peerRelease a k s).chime = s.chime := rfl
@[simp] theorem peerRelease_keypad (a : Nat) (k : AssignKey) : (peerRelease a k s).keypad = s.keypad := rfl
@[simp] theorem peerRelease_entry (a : Nat) (k : AssignKey) : (peerRelease a k s).entry = s.entry := rfl
@[simp] theorem peerRelease_requests (a : Nat) (k : AssignKey) : (peerRelease a k s).requests = s.requests := rfl
@[simp] theorem peerRelease_releases (a : Nat) (k : AssignKey) : (peerRelease a k s).releases = s.releases := rfl
@[simp] theorem peerRelease_showFifo (a : Nat) (k : AssignKey) : (peerRelease a k s).showFifo = s.showFifo := rfl
@[simp] theorem peerRelease_claim (a : Nat) (k : AssignKey) : (peerRelease a k s).claim = s.claim := rfl
@[simp] theorem peerRelease_notices (a : Nat) (k : AssignKey) : (peerRelease a k s).notices = s.notices := rfl
@[simp] theorem peerRelease_recallLatch (a : Nat) (k : AssignKey) : (peerRelease a k s).recallLatch = s.recallLatch := rfl
@[simp] theorem peerRelease_display (a : Nat) (k : AssignKey) : (peerRelease a k s).display = s.display := rfl
@[simp] theorem peerRelease_power (a : Nat) (k : AssignKey) : (peerRelease a k s).power = s.power := rfl
@[simp] theorem peerRelease_status (a : Nat) (k : AssignKey) : (peerRelease a k s).status = s.status := rfl

/-! ### pressKeys -/

@[simp] theorem pressKeys_now (ks : List Key) : (pressKeys ks s).now = s.now := rfl
@[simp] theorem pressKeys_pending (ks : List Key) : (pressKeys ks s).pending = s.pending := rfl
@[simp] theorem pressKeys_tieDraws (ks : List Key) : (pressKeys ks s).tieDraws = s.tieDraws := rfl
@[simp] theorem pressKeys_start (ks : List Key) : (pressKeys ks s).start = s.start := rfl
@[simp] theorem pressKeys_cfg (ks : List Key) : (pressKeys ks s).cfg = s.cfg := rfl
@[simp] theorem pressKeys_line (ks : List Key) : (pressKeys ks s).line = s.line := rfl
@[simp] theorem pressKeys_pointer (ks : List Key) : (pressKeys ks s).pointer = s.pointer := rfl
@[simp] theorem pressKeys_rx (ks : List Key) : (pressKeys ks s).rx = s.rx := rfl
@[simp] theorem pressKeys_cars (ks : List Key) : (pressKeys ks s).cars = s.cars := rfl
@[simp] theorem pressKeys_lanterns (ks : List Key) : (pressKeys ks s).lanterns = s.lanterns := rfl
@[simp] theorem pressKeys_chime (ks : List Key) : (pressKeys ks s).chime = s.chime := rfl
@[simp] theorem pressKeys_entry (ks : List Key) : (pressKeys ks s).entry = s.entry := rfl
@[simp] theorem pressKeys_requests (ks : List Key) : (pressKeys ks s).requests = s.requests := rfl
@[simp] theorem pressKeys_prompts (ks : List Key) : (pressKeys ks s).prompts = s.prompts := rfl
@[simp] theorem pressKeys_releases (ks : List Key) : (pressKeys ks s).releases = s.releases := rfl
@[simp] theorem pressKeys_showFifo (ks : List Key) : (pressKeys ks s).showFifo = s.showFifo := rfl
@[simp] theorem pressKeys_claim (ks : List Key) : (pressKeys ks s).claim = s.claim := rfl
@[simp] theorem pressKeys_notices (ks : List Key) : (pressKeys ks s).notices = s.notices := rfl
@[simp] theorem pressKeys_recallLatch (ks : List Key) : (pressKeys ks s).recallLatch = s.recallLatch := rfl
@[simp] theorem pressKeys_display (ks : List Key) : (pressKeys ks s).display = s.display := rfl
@[simp] theorem pressKeys_power (ks : List Key) : (pressKeys ks s).power = s.power := rfl
@[simp] theorem pressKeys_status (ks : List Key) : (pressKeys ks s).status = s.status := rfl

end Sys2Proof.Laws
end

