-- ==== Sys2Proof/Laws/Ops.lean ====
section
/-! SUPPORT. What each shared operation with a choice in it leaves as it was, field by field, and what it
says of the fields it writes. -/

namespace Sys2Proof.Laws

open Sys2Proof.Machine

variable (s : State)

/-! ### alertTest -/

@[simp] theorem alertTest_now (f : Flag) : (alertTest f s).now = s.now := by
  unfold alertTest; split <;> rfl
@[simp] theorem alertTest_pending (f : Flag) : (alertTest f s).pending = s.pending := by
  unfold alertTest; split <;> rfl
@[simp] theorem alertTest_tieDraws (f : Flag) : (alertTest f s).tieDraws = s.tieDraws := by
  unfold alertTest; split <;> rfl
@[simp] theorem alertTest_start (f : Flag) : (alertTest f s).start = s.start := by
  unfold alertTest; split <;> rfl
@[simp] theorem alertTest_cfg (f : Flag) : (alertTest f s).cfg = s.cfg := by
  unfold alertTest; split <;> rfl
@[simp] theorem alertTest_line (f : Flag) : (alertTest f s).line = s.line := by
  unfold alertTest; split <;> rfl
@[simp] theorem alertTest_pointer (f : Flag) : (alertTest f s).pointer = s.pointer := by
  unfold alertTest; split <;> rfl
@[simp] theorem alertTest_rx (f : Flag) : (alertTest f s).rx = s.rx := by
  unfold alertTest; split <;> rfl
@[simp] theorem alertTest_cars (f : Flag) : (alertTest f s).cars = s.cars := by
  unfold alertTest; split <;> rfl
@[simp] theorem alertTest_lanterns (f : Flag) : (alertTest f s).lanterns = s.lanterns := by
  unfold alertTest; split <;> rfl
@[simp] theorem alertTest_chime (f : Flag) : (alertTest f s).chime = s.chime := by
  unfold alertTest; split <;> rfl
@[simp] theorem alertTest_keypad (f : Flag) : (alertTest f s).keypad = s.keypad := by
  unfold alertTest; split <;> rfl
@[simp] theorem alertTest_entry (f : Flag) : (alertTest f s).entry = s.entry := by
  unfold alertTest; split <;> rfl
@[simp] theorem alertTest_requests (f : Flag) : (alertTest f s).requests = s.requests := by
  unfold alertTest; split <;> rfl
@[simp] theorem alertTest_prompts (f : Flag) : (alertTest f s).prompts = s.prompts := by
  unfold alertTest; split <;> rfl
@[simp] theorem alertTest_releases (f : Flag) : (alertTest f s).releases = s.releases := by
  unfold alertTest; split <;> rfl
@[simp] theorem alertTest_showFifo (f : Flag) : (alertTest f s).showFifo = s.showFifo := by
  unfold alertTest; split <;> rfl
@[simp] theorem alertTest_claim (f : Flag) : (alertTest f s).claim = s.claim := by
  unfold alertTest; split <;> rfl
@[simp] theorem alertTest_notices (f : Flag) : (alertTest f s).notices = s.notices := by
  unfold alertTest; split <;> rfl
@[simp] theorem alertTest_recallLatch (f : Flag) : (alertTest f s).recallLatch = s.recallLatch := by
  unfold alertTest; split <;> rfl
@[simp] theorem alertTest_display (f : Flag) : (alertTest f s).display = s.display := by
  unfold alertTest; split <;> rfl
@[simp] theorem alertTest_power (f : Flag) : (alertTest f s).power = s.power := by
  unfold alertTest; split <;> rfl

/-! ### setFlag -/

@[simp] theorem setFlag_now (f : Flag) : (setFlag f s).now = s.now := by
  simp only [setFlag]; split <;> simp
@[simp] theorem setFlag_pending (f : Flag) : (setFlag f s).pending = s.pending := by
  simp only [setFlag]; split <;> simp
@[simp] theorem setFlag_tieDraws (f : Flag) : (setFlag f s).tieDraws = s.tieDraws := by
  simp only [setFlag]; split <;> simp
@[simp] theorem setFlag_start (f : Flag) : (setFlag f s).start = s.start := by
  simp only [setFlag]; split <;> simp
@[simp] theorem setFlag_cfg (f : Flag) : (setFlag f s).cfg = s.cfg := by
  simp only [setFlag]; split <;> simp
@[simp] theorem setFlag_line (f : Flag) : (setFlag f s).line = s.line := by
  simp only [setFlag]; split <;> simp
@[simp] theorem setFlag_pointer (f : Flag) : (setFlag f s).pointer = s.pointer := by
  simp only [setFlag]; split <;> simp
@[simp] theorem setFlag_rx (f : Flag) : (setFlag f s).rx = s.rx := by
  simp only [setFlag]; split <;> simp
@[simp] theorem setFlag_cars (f : Flag) : (setFlag f s).cars = s.cars := by
  simp only [setFlag]; split <;> simp
@[simp] theorem setFlag_lanterns (f : Flag) : (setFlag f s).lanterns = s.lanterns := by
  simp only [setFlag]; split <;> simp
@[simp] theorem setFlag_chime (f : Flag) : (setFlag f s).chime = s.chime := by
  simp only [setFlag]; split <;> simp
@[simp] theorem setFlag_keypad (f : Flag) : (setFlag f s).keypad = s.keypad := by
  simp only [setFlag]; split <;> simp
@[simp] theorem setFlag_entry (f : Flag) : (setFlag f s).entry = s.entry := by
  simp only [setFlag]; split <;> simp
@[simp] theorem setFlag_requests (f : Flag) : (setFlag f s).requests = s.requests := by
  simp only [setFlag]; split <;> simp
@[simp] theorem setFlag_prompts (f : Flag) : (setFlag f s).prompts = s.prompts := by
  simp only [setFlag]; split <;> simp
@[simp] theorem setFlag_releases (f : Flag) : (setFlag f s).releases = s.releases := by
  simp only [setFlag]; split <;> simp
@[simp] theorem setFlag_showFifo (f : Flag) : (setFlag f s).showFifo = s.showFifo := by
  simp only [setFlag]; split <;> simp
@[simp] theorem setFlag_claim (f : Flag) : (setFlag f s).claim = s.claim := by
  simp only [setFlag]; split <;> simp
@[simp] theorem setFlag_notices (f : Flag) : (setFlag f s).notices = s.notices := by
  simp only [setFlag]; split <;> simp
@[simp] theorem setFlag_recallLatch (f : Flag) : (setFlag f s).recallLatch = s.recallLatch := by
  simp only [setFlag]; split <;> simp
@[simp] theorem setFlag_display (f : Flag) : (setFlag f s).display = s.display := by
  simp only [setFlag]; split <;> simp
@[simp] theorem setFlag_power (f : Flag) : (setFlag f s).power = s.power := by
  simp only [setFlag]; split <;> simp

/-- The alert slot never touches the flags and their marks (R192). -/
theorem alertSlot_flags (now : Nat) (t : StatusBlock) :
    (alertSlot now t).flags = t.flags ∧ (alertSlot now t).captured = t.captured
      ∧ (alertSlot now t).recurred = t.recurred ∧ (alertSlot now t).holdOff = t.holdOff := by
  unfold alertSlot
  split
  · exact ⟨rfl, rfl, rfl, rfl⟩
  · split <;> exact ⟨rfl, rfl, rfl, rfl⟩

/-- The alert test never touches the flags (R192). -/
@[simp] theorem alertTest_flags (f : Flag) : (alertTest f s).status.flags = s.status.flags := by
  unfold alertTest
  split
  · exact (alertSlot_flags _ _).1
  · rfl

/-- An occurrence sets its flag and no other (R191). -/
@[simp] theorem setFlag_flags (f : Flag) :
    (setFlag f s).status.flags = s.status.flags ||| flagWord f := by
  simp only [setFlag]
  split <;> simp

/-- An occurrence leaves the captured marks and the hold-off deadline as they were (R191, R192). -/
theorem setFlag_marks (f : Flag) :
    (setFlag f s).status.captured = s.status.captured
      ∧ (setFlag f s).status.holdOff = s.status.holdOff := by
  simp only [setFlag, alertTest]
  split
  · exact ⟨rfl, rfl⟩
  · split
    · exact ⟨(alertSlot_flags _ _).2.1, (alertSlot_flags _ _).2.2.2⟩
    · exact ⟨rfl, rfl⟩

/-! ### restartIdle -/

@[simp] theorem restartIdle_now : (restartIdle s).now = s.now := by
  unfold restartIdle; split <;> rfl
@[simp] theorem restartIdle_pending : (restartIdle s).pending = s.pending := by
  unfold restartIdle; split <;> rfl
@[simp] theorem restartIdle_tieDraws : (restartIdle s).tieDraws = s.tieDraws := by
  unfold restartIdle; split <;> rfl
@[simp] theorem restartIdle_start : (restartIdle s).start = s.start := by
  unfold restartIdle; split <;> rfl
@[simp] theorem restartIdle_cfg : (restartIdle s).cfg = s.cfg := by
  unfold restartIdle; split <;> rfl
@[simp] theorem restartIdle_line : (restartIdle s).line = s.line := by
  unfold restartIdle; split <;> rfl
@[simp] theorem restartIdle_pointer : (restartIdle s).pointer = s.pointer := by
  unfold restartIdle; split <;> rfl
@[simp] theorem restartIdle_rx : (restartIdle s).rx = s.rx := by
  unfold restartIdle; split <;> rfl
@[simp] theorem restartIdle_cars : (restartIdle s).cars = s.cars := by
  unfold restartIdle; split <;> rfl
@[simp] theorem restartIdle_lanterns : (restartIdle s).lanterns = s.lanterns := by
  unfold restartIdle; split <;> rfl
@[simp] theorem restartIdle_chime : (restartIdle s).chime = s.chime := by
  unfold restartIdle; split <;> rfl
@[simp] theorem restartIdle_keypad : (restartIdle s).keypad = s.keypad := by
  unfold restartIdle; split <;> rfl
@[simp] theorem restartIdle_entry : (restartIdle s).entry = s.entry := by
  unfold restartIdle; split <;> rfl
@[simp] theorem restartIdle_requests : (restartIdle s).requests = s.requests := by
  unfold restartIdle; split <;> rfl
@[simp] theorem restartIdle_prompts : (restartIdle s).prompts = s.prompts := by
  unfold restartIdle; split <;> rfl
@[simp] theorem restartIdle_releases : (restartIdle s).releases = s.releases := by
  unfold restartIdle; split <;> rfl
@[simp] theorem restartIdle_showFifo : (restartIdle s).showFifo = s.showFifo := by
  unfold restartIdle; split <;> rfl
@[simp] theorem restartIdle_claim : (restartIdle s).claim = s.claim := by
  unfold restartIdle; split <;> rfl
@[simp] theorem restartIdle_notices : (restartIdle s).notices = s.notices := by
  unfold restartIdle; split <;> rfl
@[simp] theorem restartIdle_recallLatch : (restartIdle s).recallLatch = s.recallLatch := by
  unfold restartIdle; split <;> rfl
@[simp] theorem restartIdle_display : (restartIdle s).display = s.display := by
  unfold restartIdle; split <;> rfl
@[simp] theorem restartIdle_status : (restartIdle s).status = s.status := by
  unfold restartIdle; split <;> rfl

/-- The idle deadline is set from the present time unless the delay is 0, and the rest of the power
controller stands (R173). -/
theorem restartIdle_power :
    (restartIdle s).power.mode = s.power.mode ∧ (restartIdle s).power.night = s.power.night
      ∧ (restartIdle s).power.drainDeadline = s.power.drainDeadline
      ∧ (restartIdle s).power.idleDeadline =
          if s.cfg.dormantDelay = 0 then s.power.idleDeadline
          else some (s.now + s.cfg.dormantDelay * 60000) := by
  unfold restartIdle
  split <;> simp_all

@[simp] theorem restartIdle_mode : (restartIdle s).power.mode = s.power.mode := (restartIdle_power s).1

@[simp] theorem restartIdle_night : (restartIdle s).power.night = s.power.night :=
  (restartIdle_power s).2.1

@[simp] theorem restartIdle_drain : (restartIdle s).power.drainDeadline = s.power.drainDeadline :=
  (restartIdle_power s).2.2.1

/-! ### leaveSleep -/

@[simp] theorem leaveSleep_now (m : PowerMode) : (leaveSleep m s).now = s.now := by
  simp only [leaveSleep]; split <;> simp
@[simp] theorem leaveSleep_pending (m : PowerMode) : (leaveSleep m s).pending = s.pending := by
  simp only [leaveSleep]; split <;> simp
@[simp] theorem leaveSleep_tieDraws (m : PowerMode) : (leaveSleep m s).tieDraws = s.tieDraws := by
  simp only [leaveSleep]; split <;> simp
@[simp] theorem leaveSleep_start (m : PowerMode) : (leaveSleep m s).start = s.start := by
  simp only [leaveSleep]; split <;> simp
@[simp] theorem leaveSleep_cfg (m : PowerMode) : (leaveSleep m s).cfg = s.cfg := by
  simp only [leaveSleep]; split <;> simp
@[simp] theorem leaveSleep_line (m : PowerMode) : (leaveSleep m s).line = s.line := by
  simp only [leaveSleep]; split <;> simp
@[simp] theorem leaveSleep_pointer (m : PowerMode) : (leaveSleep m s).pointer = s.pointer := by
  simp only [leaveSleep]; split <;> simp
@[simp] theorem leaveSleep_rx (m : PowerMode) : (leaveSleep m s).rx = s.rx := by
  simp only [leaveSleep]; split <;> simp
@[simp] theorem leaveSleep_cars (m : PowerMode) : (leaveSleep m s).cars = s.cars := by
  simp only [leaveSleep]; split <;> simp
@[simp] theorem leaveSleep_lanterns (m : PowerMode) : (leaveSleep m s).lanterns = s.lanterns := by
  simp only [leaveSleep]; split <;> simp
@[simp] theorem leaveSleep_chime (m : PowerMode) : (leaveSleep m s).chime = s.chime := by
  simp only [leaveSleep]; split <;> simp
@[simp] theorem leaveSleep_keypad (m : PowerMode) : (leaveSleep m s).keypad = s.keypad := by
  simp only [leaveSleep]; split <;> simp
@[simp] theorem leaveSleep_entry (m : PowerMode) : (leaveSleep m s).entry = EntryController.idle := by
  simp only [leaveSleep]; split <;> simp
@[simp] theorem leaveSleep_requests (m : PowerMode) : (leaveSleep m s).requests = s.requests := by
  simp only [leaveSleep]; split <;> simp
@[simp] theorem leaveSleep_prompts (m : PowerMode) : (leaveSleep m s).prompts = s.prompts := by
  simp only [leaveSleep]; split <;> simp
@[simp] theorem leaveSleep_releases (m : PowerMode) : (leaveSleep m s).releases = s.releases := by
  simp only [leaveSleep]; split <;> simp
@[simp] theorem leaveSleep_showFifo (m : PowerMode) : (leaveSleep m s).showFifo = s.showFifo := by
  simp only [leaveSleep]; split <;> simp
@[simp] theorem leaveSleep_claim (m : PowerMode) : (leaveSleep m s).claim = s.claim := by
  simp only [leaveSleep]; split <;> simp
@[simp] theorem leaveSleep_notices (m : PowerMode) : (leaveSleep m s).notices = s.notices := by
  simp only [leaveSleep]; split <;> simp
@[simp] theorem leaveSleep_recallLatch (m : PowerMode) : (leaveSleep m s).recallLatch = s.recallLatch := by
  simp only [leaveSleep]; split <;> simp
@[simp] theorem leaveSleep_status (m : PowerMode) : (leaveSleep m s).status = s.status := by
  simp only [leaveSleep]; split <;> simp

@[simp] theorem leaveSleep_mode (m : PowerMode) : (leaveSleep m s).power.mode = m := by
  simp only [leaveSleep]; split <;> simp

@[simp] theorem leaveSleep_night (m : PowerMode) : (leaveSleep m s).power.night = s.power.night := by
  simp only [leaveSleep]; split <;> simp

@[simp] theorem leaveSleep_drain (m : PowerMode) : (leaveSleep m s).power.drainDeadline = none := by
  simp only [leaveSleep]; split <;> simp

/-! ### wakeSource -/

@[simp] theorem wakeSource_now : (wakeSource s).now = s.now := by
  unfold wakeSource; split <;> simp
@[simp] theorem wakeSource_pending : (wakeSource s).pending = s.pending := by
  unfold wakeSource; split <;> simp
@[simp] theorem wakeSource_tieDraws : (wakeSource s).tieDraws = s.tieDraws := by
  unfold wakeSource; split <;> simp
@[simp] theorem wakeSource_start : (wakeSource s).start = s.start := by
  unfold wakeSource; split <;> simp
@[simp] theorem wakeSource_cfg : (wakeSource s).cfg = s.cfg := by
  unfold wakeSource; split <;> simp
@[simp] theorem wakeSource_line : (wakeSource s).line = s.line := by
  unfold wakeSource; split <;> simp
@[simp] theorem wakeSource_pointer : (wakeSource s).pointer = s.pointer := by
  unfold wakeSource; split <;> simp
@[simp] theorem wakeSource_rx : (wakeSource s).rx = s.rx := by
  unfold wakeSource; split <;> simp
@[simp] theorem wakeSource_cars : (wakeSource s).cars = s.cars := by
  unfold wakeSource; split <;> simp
@[simp] theorem wakeSource_lanterns : (wakeSource s).lanterns = s.lanterns := by
  unfold wakeSource; split <;> simp
@[simp] theorem wakeSource_chime : (wakeSource s).chime = s.chime := by
  unfold wakeSource; split <;> simp
@[simp] theorem wakeSource_keypad : (wakeSource s).keypad = s.keypad := by
  unfold wakeSource; split <;> simp
@[simp] theorem wakeSource_requests : (wakeSource s).requests = s.requests := by
  unfold wakeSource; split <;> simp
@[simp] theorem wakeSource_prompts : (wakeSource s).prompts = s.prompts := by
  unfold wakeSource; split <;> simp
@[simp] theorem wakeSource_releases : (wakeSource s).releases = s.releases := by
  unfold wakeSource; split <;> simp
@[simp] theorem wakeSource_showFifo : (wakeSource s).showFifo = s.showFifo := by
  unfold wakeSource; split <;> simp
@[simp] theorem wakeSource_claim : (wakeSource s).claim = s.claim := by
  unfold wakeSource; split <;> simp
@[simp] theorem wakeSource_notices : (wakeSource s).notices = s.notices := by
  unfold wakeSource; split <;> simp
@[simp] theorem wakeSource_recallLatch : (wakeSource s).recallLatch = s.recallLatch := by
  unfold wakeSource; split <;> simp
@[simp] theorem wakeSource_status : (wakeSource s).status = s.status := by
  unfold wakeSource; split <;> simp

/-- A wake source leaves DRAINING and DORMANT for DIM and changes no other state (R178). -/
theorem wakeSource_mode :
    (wakeSource s).power.mode = if asleep s.power.mode then .dim else s.power.mode := by
  unfold wakeSource; split <;> simp

/-- After a wake the entry controller starts from IDLE with no prompt (R103). -/
theorem wakeSource_entry :
    (wakeSource s).entry = if asleep s.power.mode then EntryController.idle else s.entry := by
  unfold wakeSource; split <;> simp

@[simp] theorem wakeSource_night : (wakeSource s).power.night = s.power.night := by
  unfold wakeSource; split <;> simp

/-! ### activity -/

@[simp] theorem activity_now : (activity s).now = s.now := by
  simp [activity]
@[simp] theorem activity_pending : (activity s).pending = s.pending := by
  simp [activity]
@[simp] theorem activity_tieDraws : (activity s).tieDraws = s.tieDraws := by
  simp [activity]
@[simp] theorem activity_start : (activity s).start = s.start := by
  simp [activity]
@[simp] theorem activity_cfg : (activity s).cfg = s.cfg := by
  simp [activity]
@[simp] theorem activity_line : (activity s).line = s.line := by
  simp [activity]
@[simp] theorem activity_pointer : (activity s).pointer = s.pointer := by
  simp [activity]
@[simp] theorem activity_rx : (activity s).rx = s.rx := by
  simp [activity]
@[simp] theorem activity_cars : (activity s).cars = s.cars := by
  simp [activity]
@[simp] theorem activity_lanterns : (activity s).lanterns = s.lanterns := by
  simp [activity]
@[simp] theorem activity_chime : (activity s).chime = s.chime := by
  simp [activity]
@[simp] theorem activity_keypad : (activity s).keypad = s.keypad := by
  simp [activity]
@[simp] theorem activity_entry : (activity s).entry = s.entry := by
  simp [activity]
@[simp] theorem activity_requests : (activity s).requests = s.requests := by
  simp [activity]
@[simp] theorem activity_prompts : (activity s).prompts = s.prompts := by
  simp [activity]
@[simp] theorem activity_releases : (activity s).releases = s.releases := by
  simp [activity]
@[simp] theorem activity_showFifo : (activity s).showFifo = s.showFifo := by
  simp [activity]
@[simp] theorem activity_claim : (activity s).claim = s.claim := by
  simp [activity]
@[simp] theorem activity_notices : (activity s).notices = s.notices := by
  simp [activity]
@[simp] theorem activity_recallLatch : (activity s).recallLatch = s.recallLatch := by
  simp [activity]
@[simp] theorem activity_display : (activity s).display = s.display := by
  simp [activity]
@[simp] theorem activity_status : (activity s).status = s.status := by
  simp [activity]

/-! ### latchEffects -/

@[simp] theorem latchEffects_now : (latchEffects s).now = s.now := by
  simp only [latchEffects]; split <;> simp
@[simp] theorem latchEffects_pending : (latchEffects s).pending = s.pending := by
  simp only [latchEffects]; split <;> simp
@[simp] theorem latchEffects_tieDraws : (latchEffects s).tieDraws = s.tieDraws := by
  simp only [latchEffects]; split <;> simp
@[simp] theorem latchEffects_start : (latchEffects s).start = s.start := by
  simp only [latchEffects]; split <;> simp
@[simp] theorem latchEffects_cfg : (latchEffects s).cfg = s.cfg := by
  simp only [latchEffects]; split <;> simp
@[simp] theorem latchEffects_line : (latchEffects s).line = s.line := by
  simp only [latchEffects]; split <;> simp
@[simp] theorem latchEffects_pointer : (latchEffects s).pointer = s.pointer := by
  simp only [latchEffects]; split <;> simp
@[simp] theorem latchEffects_rx : (latchEffects s).rx = s.rx := by
  simp only [latchEffects]; split <;> simp
@[simp] theorem latchEffects_cars : (latchEffects s).cars = s.cars := by
  simp only [latchEffects]; split <;> simp
@[simp] theorem latchEffects_lanterns : (latchEffects s).lanterns = s.lanterns := by
  simp only [latchEffects]; split <;> simp
@[simp] theorem latchEffects_chime : (latchEffects s).chime = s.chime := by
  simp only [latchEffects]; split <;> simp
@[simp] theorem latchEffects_keypad : (latchEffects s).keypad = s.keypad := by
  simp only [latchEffects]; split <;> simp
@[simp] theorem latchEffects_claim : (latchEffects s).claim = s.claim := by
  simp only [latchEffects]; split <;> simp
@[simp] theorem latchEffects_notices : (latchEffects s).notices = s.notices := by
  simp only [latchEffects]; split <;> simp
@[simp] theorem latchEffects_recallLatch : (latchEffects s).recallLatch = s.recallLatch := by
  simp only [latchEffects]; split <;> simp
@[simp] theorem latchEffects_status : (latchEffects s).status = s.status := by
  simp only [latchEffects]; split <;> simp

/-- Becoming SET holds the station ACTIVE and empties what R148 lists. -/
theorem latchEffects_does :
    (latchEffects s).power.mode = .active ∧ (latchEffects s).requests.entries = []
      ∧ (latchEffects s).requests.tagCounter = s.requests.tagCounter
      ∧ (latchEffects s).entry = EntryController.idle ∧ (latchEffects s).prompts = []
      ∧ (latchEffects s).releases = [] ∧ (latchEffects s).showFifo = []
      ∧ (latchEffects s).power.night = s.power.night := by
  simp only [latchEffects]; split <;> simp

/-! ### holdoffTest -/

@[simp] theorem holdoffTest_now : (holdoffTest s).now = s.now := by
  unfold holdoffTest; split <;> rfl
@[simp] theorem holdoffTest_pending : (holdoffTest s).pending = s.pending := by
  unfold holdoffTest; split <;> rfl
@[simp] theorem holdoffTest_tieDraws : (holdoffTest s).tieDraws = s.tieDraws := by
  unfold holdoffTest; split <;> rfl
@[simp] theorem holdoffTest_start : (holdoffTest s).start = s.start := by
  unfold holdoffTest; split <;> rfl
@[simp] theorem holdoffTest_cfg : (holdoffTest s).cfg = s.cfg := by
  unfold holdoffTest; split <;> rfl
@[simp] theorem holdoffTest_line : (holdoffTest s).line = s.line := by
  unfold holdoffTest; split <;> rfl
@[simp] theorem holdoffTest_pointer : (holdoffTest s).pointer = s.pointer := by
  unfold holdoffTest; split <;> rfl
@[simp] theorem holdoffTest_rx : (holdoffTest s).rx = s.rx := by
  unfold holdoffTest; split <;> rfl
@[simp] theorem holdoffTest_cars : (holdoffTest s).cars = s.cars := by
  unfold holdoffTest; split <;> rfl
@[simp] theorem holdoffTest_lanterns : (holdoffTest s).lanterns = s.lanterns := by
  unfold holdoffTest; split <;> rfl
@[simp] theorem holdoffTest_chime : (holdoffTest s).chime = s.chime := by
  unfold holdoffTest; split <;> rfl
@[simp] theorem holdoffTest_keypad : (holdoffTest s).keypad = s.keypad := by
  unfold holdoffTest; split <;> rfl
@[simp] theorem holdoffTest_entry : (holdoffTest s).entry = s.entry := by
  unfold holdoffTest; split <;> rfl
@[simp] theorem holdoffTest_requests : (holdoffTest s).requests = s.requests := by
  unfold holdoffTest; split <;> rfl
@[simp] theorem holdoffTest_releases : (holdoffTest s).releases = s.releases := by
  unfold holdoffTest; split <;> rfl
@[simp] theorem holdoffTest_showFifo : (holdoffTest s).showFifo = s.showFifo := by
  unfold holdoffTest; split <;> rfl
@[simp] theorem holdoffTest_notices : (holdoffTest s).notices = s.notices := by
  unfold holdoffTest; split <;> rfl
@[simp] theorem holdoffTest_recallLatch : (holdoffTest s).recallLatch = s.recallLatch := by
  unfold holdoffTest; split <;> rfl
@[simp] theorem holdoffTest_display : (holdoffTest s).display = s.display := by
  unfold holdoffTest; split <;> rfl
@[simp] theorem holdoffTest_power : (holdoffTest s).power = s.power := by
  unfold holdoffTest; split <;> rfl
@[simp] theorem holdoffTest_status : (holdoffTest s).status = s.status := by
  unfold holdoffTest; split <;> rfl

@[simp] theorem holdoffTest_claims : (holdoffTest s).claim.claims = s.claim.claims := by
  unfold holdoffTest; split <;> rfl

/-! ### drainTest -/

@[simp] theorem drainTest_now : (drainTest s).now = s.now := by
  unfold drainTest; split <;> rfl
@[simp] theorem drainTest_pending : (drainTest s).pending = s.pending := by
  unfold drainTest; split <;> rfl
@[simp] theorem drainTest_tieDraws : (drainTest s).tieDraws = s.tieDraws := by
  unfold drainTest; split <;> rfl
@[simp] theorem drainTest_start : (drainTest s).start = s.start := by
  unfold drainTest; split <;> rfl
@[simp] theorem drainTest_cfg : (drainTest s).cfg = s.cfg := by
  unfold drainTest; split <;> rfl
@[simp] theorem drainTest_line : (drainTest s).line = s.line := by
  unfold drainTest; split <;> rfl
@[simp] theorem drainTest_pointer : (drainTest s).pointer = s.pointer := by
  unfold drainTest; split <;> rfl
@[simp] theorem drainTest_rx : (drainTest s).rx = s.rx := by
  unfold drainTest; split <;> rfl
@[simp] theorem drainTest_keypad : (drainTest s).keypad = s.keypad := by
  unfold drainTest; split <;> rfl
@[simp] theorem drainTest_claim : (drainTest s).claim = s.claim := by
  unfold drainTest; split <;> rfl
@[simp] theorem drainTest_notices : (drainTest s).notices = s.notices := by
  unfold drainTest; split <;> rfl
@[simp] theorem drainTest_recallLatch : (drainTest s).recallLatch = s.recallLatch := by
  unfold drainTest; split <;> rfl
@[simp] theorem drainTest_status : (drainTest s).status = s.status := by
  unfold drainTest; split <;> rfl

/-! ### clearMark -/

@[simp] theorem clearMark_now (i : ShowItem) : (clearMark i s).now = s.now := by
  unfold clearMark; split <;> rfl
@[simp] theorem clearMark_pending (i : ShowItem) : (clearMark i s).pending = s.pending := by
  unfold clearMark; split <;> rfl
@[simp] theorem clearMark_tieDraws (i : ShowItem) : (clearMark i s).tieDraws = s.tieDraws := by
  unfold clearMark; split <;> rfl
@[simp] theorem clearMark_start (i : ShowItem) : (clearMark i s).start = s.start := by
  unfold clearMark; split <;> rfl
@[simp] theorem clearMark_cfg (i : ShowItem) : (clearMark i s).cfg = s.cfg := by
  unfold clearMark; split <;> rfl
@[simp] theorem clearMark_line (i : ShowItem) : (clearMark i s).line = s.line := by
  unfold clearMark; split <;> rfl
@[simp] theorem clearMark_pointer (i : ShowItem) : (clearMark i s).pointer = s.pointer := by
  unfold clearMark; split <;> rfl
@[simp] theorem clearMark_rx (i : ShowItem) : (clearMark i s).rx = s.rx := by
  unfold clearMark; split <;> rfl
@[simp] theorem clearMark_cars (i : ShowItem) : (clearMark i s).cars = s.cars := by
  unfold clearMark; split <;> rfl
@[simp] theorem clearMark_lanterns (i : ShowItem) : (clearMark i s).lanterns = s.lanterns := by
  unfold clearMark; split <;> rfl
@[simp] theorem clearMark_chime (i : ShowItem) : (clearMark i s).chime = s.chime := by
  unfold clearMark; split <;> rfl
@[simp] theorem clearMark_keypad (i : ShowItem) : (clearMark i s).keypad = s.keypad := by
  unfold clearMark; split <;> rfl
@[simp] theorem clearMark_entry (i : ShowItem) : (clearMark i s).entry = s.entry := by
  unfold clearMark; split <;> rfl
@[simp] theorem clearMark_requests (i : ShowItem) : (clearMark i s).requests = s.requests := by
  unfold clearMark; split <;> rfl
@[simp] theorem clearMark_releases (i : ShowItem) : (clearMark i s).releases = s.releases := by
  unfold clearMark; split <;> rfl
@[simp] theorem clearMark_showFifo (i : ShowItem) : (clearMark i s).showFifo = s.showFifo := by
  unfold clearMark; split <;> rfl
@[simp] theorem clearMark_claim (i : ShowItem) : (clearMark i s).claim = s.claim := by
  unfold clearMark; split <;> rfl
@[simp] theorem clearMark_notices (i : ShowItem) : (clearMark i s).notices = s.notices := by
  unfold clearMark; split <;> rfl
@[simp] theorem clearMark_recallLatch (i : ShowItem) : (clearMark i s).recallLatch = s.recallLatch := by
  unfold clearMark; split <;> rfl
@[simp] theorem clearMark_display (i : ShowItem) : (clearMark i s).display = s.display := by
  unfold clearMark; split <;> rfl
@[simp] theorem clearMark_power (i : ShowItem) : (clearMark i s).power = s.power := by
  unfold clearMark; split <;> rfl
@[simp] theorem clearMark_status (i : ShowItem) : (clearMark i s).status = s.status := by
  unfold clearMark; split <;> rfl

end Sys2Proof.Laws
end

