-- ==== Sys2Proof/Laws/Settle.lean ====
section
/-! SUPPORT. What the standing conditions can do after a command, said once: `settle_settles`. -/

namespace Sys2Proof.Laws

open Sys2Proof.Machine Sys2Proof.Safety

/-! ### Records that follow -/

/-- A record may stay as it is. -/
theorem recordFollows_refl (s : State) (p : PromptRecord) : recordFollows s p p := .inl rfl

/-- Records may stay as they are. -/
theorem recordsFollow_refl (s : State) : ∀ ps : List PromptRecord, recordsFollow s ps ps
  | [] => trivial
  | p :: ps => ⟨recordFollows_refl s p, recordsFollow_refl s ps⟩

/-- What may become of a record in two turns may become of it in one. -/
theorem recordFollows_trans {s : State} {p q r : PromptRecord} (h : recordFollows s p q)
    (h' : recordFollows s q r) : recordFollows s p r := by
  have started : ∀ {p}, holdoffStarted s p q → r = q := by
    rintro p ⟨-, -, -, hm, l, rfl⟩
    rcases h' with rfl | ⟨-, -, hn, -⟩ | ⟨-, rfl | ⟨-, -, hn, -⟩⟩
    · rfl
    · simp at hn
    · simp [hm]
    · simp at hn
  rcases h with rfl | hs | ⟨ho, rfl | hs⟩
  · exact h'
  · exact started hs ▸ .inr (.inl hs)
  · rcases h' with rfl | hs | ⟨-, rfl | hs⟩
    · exact .inr (.inr ⟨ho, .inl rfl⟩)
    · exact .inr (.inr ⟨ho, .inr hs⟩)
    · exact .inr (.inr ⟨ho, .inl rfl⟩)
    · exact .inr (.inr ⟨ho, .inr hs⟩)
  · exact started hs ▸ .inr (.inr ⟨ho, .inr hs⟩)

/-- The same for the records one by one. -/
theorem recordsFollow_trans {s : State} :
    ∀ {ps qs rs : List PromptRecord}, recordsFollow s ps qs → recordsFollow s qs rs →
      recordsFollow s ps rs
  | [], [], [], _, _ => trivial
  | _ :: _, _ :: _, _ :: _, h, h' => ⟨recordFollows_trans h.1 h'.1, recordsFollow_trans h.2 h'.2⟩
  | [], [], _ :: _, _, h' => h'.elim
  | [], _ :: _, _, h, _ => h.elim
  | _ :: _, [], _, h, _ => h.elim
  | _ :: _, _ :: _, [], _, h' => h'.elim

/-- What is so of one record that follows is so of each. -/
theorem recordsFollow_of_forall {s : State} (f : PromptRecord → PromptRecord)
    (h : ∀ p, recordFollows s p (f p)) : ∀ ps : List PromptRecord, recordsFollow s ps (ps.map f)
  | [] => trivial
  | p :: ps => ⟨h p, recordsFollow_of_forall f h ps⟩

/-- The terms of `recordsFollow` hang on the time, the configuration, whether holdoffs are allowed and
whether an attempt may begin. -/
theorem recordsFollow_congr {s s' : State} (hn : s.now = s'.now) (hc : s.cfg = s'.cfg)
    (ha : holdoffsAllowed s = holdoffsAllowed s') (ho : offerOpen s → offerOpen s') :
    ∀ {ps qs : List PromptRecord}, recordsFollow s ps qs → recordsFollow s' ps qs
  | [], [], _ => trivial
  | p :: ps, q :: qs, h => by
    have started : ∀ {p}, holdoffStarted s p q → holdoffStarted s' p q := by
      intro p h
      unfold holdoffStarted at *
      rwa [← ha, ← hn, ← hc]
    refine ⟨?_, recordsFollow_congr hn hc ha ho h.2⟩
    rcases h.1 with e | h | ⟨h, e | h'⟩
    · exact .inl e
    · exact .inr (.inl (started h))
    · exact .inr (.inr ⟨ho h, .inl e⟩)
    · exact .inr (.inr ⟨ho h, .inr (started h')⟩)
  | [], _ :: _, h => h.elim
  | _ :: _, [], h => h.elim

/-! ### Holdoffs -/

/-- Starting holdoffs: the records follow, the LFSR makes one step for each, and none that could start is
left (R114, R115). -/
theorem startHoldoffs_follow (s : State) (ha : holdoffsAllowed s = true) :
    ∀ (n : Nat) (l : BitVec 16) (ps : List PromptRecord),
      recordsFollow s ps (startHoldoffs s.cfg s.now n l ps).1
        ∧ ∃ k, (startHoldoffs s.cfg s.now n l ps).2 = Nat.repeat lfsrStep k l
          ∧ holdoffCount (startHoldoffs s.cfg s.now n l ps).1 = holdoffCount ps + k
          ∧ ((startHoldoffs s.cfg s.now n l ps).1.filter reservesRow).length
              = (ps.filter reservesRow).length + k
          ∧ (s.cfg.rowCount ≤ n + k
              ∨ ∀ p ∈ (startHoldoffs s.cfg s.now n l ps).1, holdoffEligible p = false)
  | _, _, [] => ⟨trivial, 0, rfl, rfl, rfl, .inr fun p h => by simp [startHoldoffs] at h⟩
  | n, l, p :: ps => by
    have shift : ∀ k (l : BitVec 16), Nat.repeat lfsrStep k (lfsrStep l) = Nat.repeat lfsrStep (k + 1) l := by
      intro k l
      induction k with
      | zero => rfl
      | succ k ih => simp only [Nat.repeat] at ih ⊢; rw [ih]
    unfold startHoldoffs
    split
    · rename_i h
      obtain ⟨he, hn⟩ := h
      obtain ⟨hf, k, hl, hc, hr, hd⟩ := startHoldoffs_follow s ha (n + 1) (lfsrStep l) ps
      simp only [holdoffEligible, Bool.and_eq_true, beq_iff_eq, Option.isNone_iff_eq_none,
        Bool.not_eq_true'] at he
      obtain ⟨⟨hb, hh⟩, hm⟩ := he
      refine ⟨⟨.inr (.inl ⟨ha, hb, hh, hm, _, rfl⟩), hf⟩, k + 1, ?_, ?_, ?_, ?_⟩
      · simp only [hl, shift]
      · simp only [holdoffCount, List.filter_cons, hh] at hc ⊢
        simp [hc]
        omega
      · simp only [List.filter_cons, reservesRow, hb, hh, hm] at hr ⊢
        simp [hr]
        omega
      · refine hd.imp (fun h => by omega) fun h q hq => ?_
        rcases List.mem_cons.1 hq with rfl | hq
        · simp [holdoffEligible]
        · exact h q hq
    · rename_i h
      obtain ⟨hf, k, hl, hc, hr, hd⟩ := startHoldoffs_follow s ha n l ps
      refine ⟨⟨.inl rfl, hf⟩, k, hl, ?_, ?_, ?_⟩
      · simp only [holdoffCount, List.filter_cons] at hc ⊢
        split <;> simp [hc]
        omega
      · simp only [List.filter_cons] at hr ⊢
        split <;> simp [hr]
        omega
      · refine hd.elim (fun h => .inl h) fun hd => ?_
        by_cases hn : n < s.cfg.rowCount
        · refine .inr fun q hq => ?_
          rcases List.mem_cons.1 hq with rfl | hq
          · simpa [hn] using h
          · exact hd q hq
        · exact .inl (by omega)

/-- Starting holdoffs leaves what an offer sees of the records. -/
theorem startHoldoffs_claimsOf (cfg : Settings) (now : Nat) :
    ∀ (n : Nat) (l : BitVec 16) (ps : List PromptRecord),
      claimsOf (startHoldoffs cfg now n l ps).1 = claimsOf ps
  | _, _, [] => rfl
  | n, l, p :: ps => by
    unfold startHoldoffs
    split <;> exact congrArg (_ :: ·) (startHoldoffs_claimsOf cfg now _ _ ps)

/-- What a part of the standing conditions comes to, as far as records and the LFSR go. -/
def claimsFollow (s t : State) : Prop :=
  recordsFollow s s.prompts t.prompts
    ∧ ∃ n, t.claim = { s.claim with lfsr := Nat.repeat lfsrStep n s.claim.lfsr }
      ∧ holdoffCount t.prompts = holdoffCount s.prompts + n

/-- The holdoff start test writes holdoffs and the LFSR, and leaves none to start (R114). -/
theorem holdoffTest_form (s : State) :
    ∃ ps c, holdoffTest s = { s with prompts := ps, claim := c } ∧ claimsFollow s (holdoffTest s)
      ∧ holdoffsDone (holdoffTest s) ∧ claimsOf ps = claimsOf s.prompts := by
  unfold holdoffTest
  split
  · rename_i ha
    obtain ⟨hf, k, hl, hc, hr, hd⟩ :=
      startHoldoffs_follow s ha (reservedRows s) s.claim.lfsr s.prompts
    refine ⟨_, _, rfl, ⟨hf, k, by simp only [hl], hc⟩, fun _ => hd.imp (fun h => ?_) id,
      startHoldoffs_claimsOf ..⟩
    show s.cfg.rowCount ≤ ((startHoldoffs s.cfg s.now (reservedRows s) s.claim.lfsr s.prompts).1.filter
      reservesRow).length + s.releases.length
    rw [hr]
    simp only [reservedRows] at h
    omega
  · rename_i ha
    exact ⟨s.prompts, s.claim, rfl, ⟨recordsFollow_refl _ _, 0, rfl, rfl⟩, fun h => absurd h ha, rfl⟩

/-- The steps of the LFSR add up. -/
theorem repeat_add (a b : Nat) (l : BitVec 16) :
    Nat.repeat lfsrStep b (Nat.repeat lfsrStep a l) = Nat.repeat lfsrStep (a + b) l := by
  induction b with
  | zero => rfl
  | succ b ih => simp only [Nat.repeat] at ih ⊢; rw [ih]; rfl

/-- Two parts in turn, the second on a state with the terms of the first. -/
theorem claimsFollow_trans {s t u : State} (h : claimsFollow s t) (h' : claimsFollow t u)
    (hn : t.now = s.now) (hc : t.cfg = s.cfg) (ha : holdoffsAllowed t = holdoffsAllowed s)
    (ho : offerOpen t → offerOpen s) : claimsFollow s u := by
  obtain ⟨hf, n, hl, hh⟩ := h
  obtain ⟨hf', n', hl', hh'⟩ := h'
  refine ⟨recordsFollow_trans hf (recordsFollow_congr hn hc ha ho hf'), n + n', ?_, by omega⟩
  rw [hl', hl]
  simp only [repeat_add]

/-! ### The offer -/

/-- A record of the key and with this board state and mark, by what an offer sees. -/
theorem any_claimsOf (f : AssignKey × BoardState × Bool → Bool) (ps : List PromptRecord) :
    (ps.any fun p => f (p.key, p.board, p.takeQueued)) = (claimsOf ps).any f := by
  simp only [claimsOf, List.any_map]
  rfl

/-- The check of R11 passes exactly on its terms. -/
theorem mayOffer_iff (s : State) (i : ShowItem) : mayOffer s i = true ↔ passesCheck s i := by
  unfold mayOffer passesCheck inReleases
  cases i.act <;> cases i.withdrawn <;> simp [and_assoc]

/-- The mark of a dropped TAKE's record is cleared (R117). -/
theorem clearMark_eq (i : ShowItem) (s : State) : clearMark i s = markCleared s i := by
  cases h : i.act <;> cases hw : i.withdrawn <;>
    simp [clearMark, markCleared, updatePrompt, isTakeOf, h, hw]

/-- What the drops at an offer come to (R11): the items that fail one after the other are gone, with their
marks, and the next one, if any, passes. -/
theorem dropUnsent_does (q : List ShowItem) (s : State) :
    ∃ dropped kept, q = dropped ++ kept ∧ droppedInTurn s dropped
      ∧ dropUnsent q s = { afterDrops s dropped with showFifo := kept }
      ∧ ∀ i ∈ kept.head?, passesCheck (afterDrops s dropped) i := by
  induction q generalizing s with
  | nil => exact ⟨[], [], rfl, trivial, rfl, by simp⟩
  | cons i rest ih =>
    unfold dropUnsent
    split
    case isTrue h =>
      refine ⟨[], i :: rest, rfl, trivial, rfl, fun j hj => ?_⟩
      obtain rfl : i = j := by simpa using hj
      exact (mayOffer_iff s i).1 h
    case isFalse h =>
      obtain ⟨d, k, rfl, hd, he, hk⟩ := ih (clearMark i s)
      rw [clearMark_eq] at hd he hk
      exact ⟨i :: d, k, rfl, ⟨fun hp => h ((mayOffer_iff s i).2 hp), hd⟩, by rw [clearMark_eq, he]; rfl, hk⟩

/-- An item is offered exactly when one is left by the drops (R11). -/
theorem dropUnsent_offers (q : List ShowItem) (s : State) :
    (dropUnsent q s).showFifo ≠ [] ↔ showOffered s q := by
  induction q generalizing s with
  | nil => simp [dropUnsent, showOffered]
  | cons i rest ih =>
    unfold dropUnsent showOffered
    split
    case isTrue h => simp [(mayOffer_iff s i).1 h]
    case isFalse h => rw [clearMark_eq, ih]; simp [← mayOffer_iff, h]

/-- States in which an offer finds the same: power state, release buffer, and the records but for what it does
not see of them. -/
def sameClaims (s t : State) : Prop :=
  t.power.mode = s.power.mode ∧ t.releases = s.releases ∧ claimsOf t.prompts = claimsOf s.prompts

/-- The check of R11 hangs on what an offer sees. -/
theorem passesCheck_congr {s t : State} (h : sameClaims s t) (i : ShowItem) :
    passesCheck t i ↔ passesCheck s i := by
  obtain ⟨hm, hr, hc⟩ := h
  rw [← mayOffer_iff, ← mayOffer_iff]
  unfold mayOffer
  rw [any_claimsOf fun c => c.1 == i.key && c.2.1 == .pending && c.2.2,
    any_claimsOf fun c => c.1 == i.key && c.2.1 == .owned,
    any_claimsOf (ps := s.prompts) fun c => c.1 == i.key && c.2.1 == .pending && c.2.2,
    any_claimsOf (ps := s.prompts) fun c => c.1 == i.key && c.2.1 == .owned, hm, hr, hc]

/-- A cleared mark leaves the same for an offer where it found the same. -/
theorem markCleared_congr {s t : State} (h : sameClaims s t) (i : ShowItem) :
    sameClaims (markCleared s i) (markCleared t i) := by
  have cleared : ∀ ps : List PromptRecord,
      claimsOf (ps.map fun p => if p.key = i.key then { p with takeQueued := false } else p)
        = (claimsOf ps).map fun c => if c.1 = i.key then (c.1, c.2.1, false) else c := by
    intro ps
    simp only [claimsOf, List.map_map]
    refine List.map_congr_left fun p _ => ?_
    simp only [Function.comp]
    split <;> rfl
  unfold markCleared
  split
  · exact h
  · exact ⟨h.1, h.2.1, by simp only [cleared, h.2.2]⟩

/-- The drops in turn hang on what an offer sees. -/
theorem droppedInTurn_congr :
    ∀ (q : List ShowItem) {s t : State}, sameClaims s t → (droppedInTurn t q ↔ droppedInTurn s q)
  | [], _, _, _ => Iff.rfl
  | i :: q, _, _, h =>
    and_congr (not_congr (passesCheck_congr h i)) (droppedInTurn_congr q (markCleared_congr h i))

/-- What the drops leave hangs on what an offer sees. -/
theorem afterDrops_congr :
    ∀ (q : List ShowItem) {s t : State}, sameClaims s t → sameClaims (afterDrops s q) (afterDrops t q)
  | [], _, _, h => h
  | i :: q, _, _, h => afterDrops_congr q (markCleared_congr h i)

/-- Whether an item is offered hangs on what an offer sees. -/
theorem showOffered_congr :
    ∀ (q : List ShowItem) {s t : State}, sameClaims s t → (showOffered t q ↔ showOffered s q)
  | [], _, _, _ => Iff.rfl
  | i :: q, _, _, h =>
    or_congr (passesCheck_congr h i) (showOffered_congr q (markCleared_congr h i))

/-- The drops write the records' marks alone: the records follow, and as many have a holdoff (R117). -/
theorem afterDrops_form :
    ∀ (q : List ShowItem) (s : State), offerOpen s →
      ∃ ps, afterDrops s q = { s with prompts := ps } ∧ recordsFollow s s.prompts ps
        ∧ holdoffCount ps = holdoffCount s.prompts
  | [], s, _ => ⟨s.prompts, rfl, recordsFollow_refl _ _, rfl⟩
  | i :: q, s, ho => by
    have one : ∃ ps, markCleared s i = { s with prompts := ps } ∧ recordsFollow s s.prompts ps
        ∧ holdoffCount ps = holdoffCount s.prompts := by
      unfold markCleared
      split
      · exact ⟨s.prompts, rfl, recordsFollow_refl _ _, rfl⟩
      · refine ⟨_, rfl, recordsFollow_of_forall _ (fun p => ?_) _, ?_⟩
        · split
          · exact .inr (.inr ⟨ho, .inl rfl⟩)
          · exact .inl rfl
        · simp only [holdoffCount, List.filter_map, List.length_map]
          congr 2
          funext p
          simp only [Function.comp]
          split <;> rfl
    obtain ⟨ps, e, hf, hc⟩ := one
    obtain ⟨ps', e', hf', hc'⟩ := afterDrops_form q { s with prompts := ps } ho
    refine ⟨ps', ?_, recordsFollow_trans hf ?_, hc'.trans hc⟩
    · show afterDrops (markCleared s i) q = _
      rw [e, e']
    · exact recordsFollow_congr (s := { s with prompts := ps }) (s' := s) rfl rfl rfl (fun h => h) hf'

/-- As many are Owned where an offer sees the same. -/
theorem ownedCount_congr {s t : State} (h : claimsOf t.prompts = claimsOf s.prompts) :
    ownedCount t = ownedCount s := by
  have owned : ∀ ps : List PromptRecord,
      (ps.filter fun p => p.board == .owned).length
        = ((claimsOf ps).filter fun c => c.2.1 == .owned).length := by
    intro ps
    simp only [claimsOf, List.filter_map, List.length_map]
    rfl
  simp only [ownedCount, owned, h]

/-- A cleared mark leaves the board states. -/
theorem markCleared_owned (s : State) (i : ShowItem) : ownedCount (markCleared s i) = ownedCount s := by
  unfold markCleared
  split
  · rfl
  · simp only [ownedCount, List.filter_map, List.length_map]
    congr 2
    funext p
    simp only [Function.comp]
    split <;> rfl

/-- The drops leave the board states. -/
theorem afterDrops_owned : ∀ (q : List ShowItem) (s : State), ownedCount (afterDrops s q) = ownedCount s
  | [], _ => rfl
  | i :: q, s => (afterDrops_owned q (markCleared s i)).trans (markCleared_owned s i)

/-- No Queued entry: the REQ class has nothing to offer (R10). -/
theorem nothingIn_req {s : State} (h : s.requests.entries.find? (fun r => !r.sent) = none) :
    nothingIn s .req := fun r hr => by simpa using List.find?_eq_none.1 h r hr

/-- What the selector offers (R10, R11): items dropped in turn, and then the telegram of the class that the offer
comes to, or nothing in any class. -/
theorem selectOffer_does (s : State) (ho : offerOpen s) :
    ∃ dropped kept, s.showFifo = dropped ++ kept ∧ droppedInTurn s dropped
      ∧ (selectOffer (cycleFrom s.pointer) s).1 = { afterDrops s dropped with showFifo := kept }
      ∧ match (selectOffer (cycleFrom s.pointer) s).2 with
        | some o => comesTo s (classOfItem o.1) ∧ isOffer s dropped kept { item := o.1, frame := o.2 }
        | none => (∀ c, nothingIn s c) ∧ kept = [] := by
  obtain ⟨dropped, kept, hq, hd, he, hk⟩ := dropUnsent_does s.showFifo s
  obtain ⟨ps, hps, -, -⟩ := afterDrops_form dropped s ho
  have hshows : kept = [] → nothingIn s .shows := fun h ha =>
    (dropUnsent_offers s.showFifo s).2 ha (by rw [he, h])
  have howned := afterDrops_owned dropped s
  have hreq : ∀ t : State, t.requests = s.requests → t.cfg = s.cfg → t.start = s.start →
      offerOf .req t = (t, (s.requests.entries.find? fun r => !r.sent).map fun r => (.req r.tag, reqFrame s r)) := by
    intro t h1 h2 h3
    simp only [offerOf, reqFrame, h1, h2, h3]
    cases s.requests.entries.find? fun r => !r.sent <;> rfl
  have hshow : offerOf .shows s = ({ afterDrops s dropped with showFifo := kept },
      kept.head?.map fun i => (.shows i.act i.key, showFrame s i)) := by
    simp only [offerOf, he, hps]
    cases kept <;> rfl
  have hstat : ∀ t : State, t.status = s.status → statFrame t = statFrame s →
      offerOf .stat t = (t, s.status.slot.map fun _ => (.stat, statFrame s)) := by
    intro t h1 h2
    simp only [offerOf, h1, h2]
    cases s.status.slot <;> rfl
  have hd1 := hreq { afterDrops s dropped with showFifo := kept } (by rw [hps]) (by rw [hps]) (by rw [hps])
  have hd3 := hstat { afterDrops s dropped with showFifo := kept } (by rw [hps]) (by
    rw [hps] at howned ⊢
    simp only [statFrame, mutedField, liveCount]
    rw [show ownedCount { s with prompts := ps, showFifo := kept } = ownedCount s from howned])
  have hs1 := hreq s rfl rfl rfl
  have hs3 := hstat s rfl rfl
  have all : nothingIn s .req → nothingIn s .shows → nothingIn s .stat → ∀ c, nothingIn s c := by
    intro h1 h2 h3 c
    cases c <;> assumption
  cases hp : s.pointer with
  | req =>
    cases hr : s.requests.entries.find? (fun r => !r.sent) with
    | some r =>
      simp only [cycleFrom, nextClass, selectOffer, hs1, hr, Option.map]
      exact ⟨[], s.showFifo, rfl, trivial, rfl, by simp [comesTo, hp, askedBefore, classOfItem], by simp [hp], r, hr, rfl, rfl⟩
    | none =>
      have h1 := nothingIn_req hr
      refine ⟨dropped, kept, hq, hd, ?_⟩
      simp only [cycleFrom, nextClass, selectOffer, hs1, hr, hshow, Option.map, List.head?]
      cases kept with
      | cons i rest => exact ⟨rfl, by simpa [comesTo, hp, askedBefore, classOfItem] using h1, i, rest, rfl, hk i rfl, rfl, rfl, rfl⟩
      | nil =>
        have h2 := hshows rfl
        cases hl : s.status.slot with
        | some o =>
          simp only [hd3, hl, Option.map]
          exact ⟨trivial, by simpa [comesTo, hp, askedBefore, classOfItem] using ⟨h1, h2⟩, by simp [hp], by simp [hl], rfl⟩
        | none =>
          simp only [hd3, hl, Option.map]
          exact ⟨trivial, all h1 h2 hl, trivial⟩
  | shows =>
    refine ⟨dropped, kept, hq, hd, ?_⟩
    simp only [cycleFrom, nextClass, selectOffer, hshow, Option.map, List.head?]
    cases kept with
    | cons i rest => exact ⟨rfl, by simp [comesTo, hp, askedBefore, classOfItem], i, rest, rfl, hk i rfl, rfl, rfl, rfl⟩
    | nil =>
      have h2 := hshows rfl
      cases hl : s.status.slot with
      | some o =>
        simp only [hd3, hl, Option.map]
        exact ⟨trivial, by simpa [comesTo, hp, askedBefore, classOfItem] using h2, by simp [hp], by simp [hl], rfl⟩
      | none =>
        have h3 : nothingIn s .stat := hl
        simp only [hd3, hl, Option.map]
        cases hr : s.requests.entries.find? (fun r => !r.sent) with
        | some r =>
          simp only [hd1, hr, Option.map]
          exact ⟨trivial, by simpa [comesTo, hp, askedBefore, classOfItem] using ⟨h2, h3⟩, by simp [hp], r, hr, rfl, rfl⟩
        | none =>
          simp only [hd1, hr, Option.map]
          exact ⟨trivial, all (nothingIn_req hr) h2 h3, trivial⟩
  | stat =>
    cases hl : s.status.slot with
    | some o =>
      simp only [cycleFrom, nextClass, selectOffer, hs3, hl, Option.map]
      exact ⟨[], s.showFifo, rfl, trivial, rfl, by simp [comesTo, hp, askedBefore, classOfItem], by simp [hp], by simp [hl], rfl⟩
    | none =>
      have h3 : nothingIn s .stat := hl
      cases hr : s.requests.entries.find? (fun r => !r.sent) with
      | some r =>
        simp only [cycleFrom, nextClass, selectOffer, hs3, hl, hs1, hr, Option.map]
        exact ⟨[], s.showFifo, rfl, trivial, rfl, by simpa [comesTo, hp, askedBefore, classOfItem] using h3, by simp [hp], r, hr, rfl, rfl⟩
      | none =>
        have h1 := nothingIn_req hr
        refine ⟨dropped, kept, hq, hd, ?_⟩
        simp only [cycleFrom, nextClass, selectOffer, hs3, hl, hs1, hr, hshow, Option.map, List.head?]
        cases kept with
        | cons i rest => exact ⟨rfl, by simpa [comesTo, hp, askedBefore, classOfItem] using ⟨h3, h1⟩, i, rest, rfl, hk i rfl, rfl, rfl, rfl⟩
        | nil => exact ⟨rfl, all h1 (hshows rfl) h3, rfl⟩

/-! ## The whole of it -/

/-- What the standing conditions but for the regions' strings come to. -/
def standsTo (s t : State) : Prop :=
  t =
      { s with
        line := t.line
        showFifo := t.showFifo
        status := t.status
        prompts := t.prompts
        claim := t.claim }
    ∧ claimsFollow s t ∧ offerFollows s t ∧ holdoffsDone t

/-- A launch is an offer begun, or no class has anything (R4, R10, R11). -/
theorem launch_follows (s : State) (ho : offerOpen s) :
    ∃ ps st q l, launch s = { s with prompts := ps, status := st, showFifo := q, line := l }
      ∧ recordsFollow s s.prompts ps ∧ holdoffCount ps = holdoffCount s.prompts
      ∧ offerFollows s (launch s) := by
  obtain ⟨dropped, kept, hq, hd, he, hm⟩ := selectOffer_does s ho
  obtain ⟨ps, hps, hr, hc⟩ := afterDrops_form dropped s ho
  unfold launch
  cases hsel : selectOffer (cycleFrom s.pointer) s with
  | mk s' o =>
    rw [hsel] at he hm
    simp only [hps] at he
    subst he
    have marks : claimsOf ps = claimsOf (afterDrops s dropped).prompts := by rw [hps]
    cases o with
    | some o =>
      obtain ⟨item, frame⟩ := o
      refine ⟨ps, ?_⟩
      cases item <;>
        exact ⟨_, _, _, rfl, hr, hc, .inr ⟨ho, dropped, kept, hq, hd, marks, .inl ⟨_, rfl, hm.1, hm.2, rfl, rfl⟩⟩⟩
    | none =>
      obtain ⟨hall, rfl⟩ := hm
      exact ⟨ps, s.status, [], s.line, rfl, hr, hc, .inr ⟨ho, dropped, [], hq, hd, marks, .inr ⟨hall, rfl, rfl, rfl, rfl⟩⟩⟩

/-- What an offer comes to hangs on what it sees of the records: holdoffs that start before or after it change
nothing of it. -/
theorem offerFollows_congr {s t u : State} {ps : List PromptRecord} {c : ClaimHoldoff}
    (h : offerFollows { s with prompts := ps, claim := c } t) (hs : claimsOf ps = claimsOf s.prompts)
    (hl : u.line = t.line) (hf : u.showFifo = t.showFifo) (hst : u.status = t.status)
    (hu : claimsOf u.prompts = claimsOf t.prompts) : offerFollows s u := by
  have same : sameClaims s { s with prompts := ps, claim := c } := ⟨rfl, rfl, hs⟩
  have nothing : ∀ d, nothingIn { s with prompts := ps, claim := c } d → nothingIn s d := by
    intro d
    cases d
    · exact id
    · exact fun h hn => h ((showOffered_congr _ same).2 hn)
    · exact id
  unfold offerFollows attemptBegun at *
  rw [hl, hf, hst, hu]
  rcases h with ⟨ho, h1, h2, h3, h4⟩ | ⟨ho, dropped, kept, hq, hd, hm, h⟩
  · exact .inl ⟨ho, h1, h2, h3, h4.trans hs⟩
  · refine .inr ⟨ho, dropped, kept, hq, (droppedInTurn_congr _ same).1 hd,
      hm.trans (afterDrops_congr dropped same).2.2, h.imp ?_ fun h => ⟨fun d => nothing d (h.1 d), h.2⟩⟩
    rintro ⟨⟨item, frame⟩, h1, h2, h3, h4⟩
    refine ⟨_, h1, fun d hd => nothing d (h2 d hd), ?_, h4⟩
    cases item with
    | req tag => exact h3
    | shows act k =>
      obtain ⟨i, rest, hk, hp, hi⟩ := h3
      exact ⟨i, rest, hk, (passesCheck_congr (afterDrops_congr dropped same) i).1 hp, hi⟩
    | stat =>
      refine ⟨h3.1, h3.2.1, h3.2.2.trans ?_⟩
      simp only [statFrame, mutedField, liveCount]
      rw [ownedCount_congr (s := s) (t := { s with prompts := ps, claim := c }) hs]

/-- Whether holdoffs are allowed hangs on the configuration, the power state, the latch and the queue. -/
theorem holdoffsAllowed_congr {s t : State} (hc : t.cfg = s.cfg) (hp : t.power = s.power)
    (hr : t.recallLatch = s.recallLatch) (hq : t.rx = s.rx) :
    holdoffsAllowed t = holdoffsAllowed s := by
  simp only [holdoffsAllowed, hc, hp, hr, hq]

/-- Where an attempt may begin, holdoffs, the offer, and holdoffs again (R4, R114). -/
theorem attemptTest_stands (s : State) : standsTo s (attemptTest (holdoffTest s)) := by
  obtain ⟨ps, c, e, hc, hd, hk⟩ := holdoffTest_form s
  rw [e] at hc hd ⊢
  unfold attemptTest
  split
  · rename_i h
    obtain ⟨hm, hw⟩ := h
    simp only [mayTransmit, Bool.and_eq_true, beq_iff_eq, bne_iff_ne, ne_eq] at hm
    have ho : offerOpen s := ⟨hm.1, hw, hm.2⟩
    obtain ⟨ps', st, q, l, e', hr, hn, hoff⟩ := launch_follows { s with prompts := ps, claim := c } ho
    rw [e'] at hoff ⊢
    obtain ⟨ps'', c'', e'', hc'', hd'', hk''⟩ :=
      holdoffTest_form
        { { s with prompts := ps, claim := c } with prompts := ps', status := st, showFifo := q, line := l }
    rw [e''] at hc'' hd'' ⊢
    have step : claimsFollow s
        { { s with prompts := ps, claim := c } with
          prompts := ps', status := st, showFifo := q, line := l } := by
      obtain ⟨hf, n, hl, hcount⟩ := hc
      refine ⟨recordsFollow_trans hf
        (recordsFollow_congr (s := { s with prompts := ps, claim := c }) (s' := s) rfl rfl rfl
          (fun h => h) hr), n, hl, ?_⟩
      exact hn.trans hcount
    have whole := claimsFollow_trans step hc'' rfl rfl rfl (fun _ => ho)
    exact ⟨rfl, whole, offerFollows_congr hoff hk rfl rfl rfl hk'', hd''⟩
  · rename_i h
    refine ⟨rfl, hc, .inl ⟨fun ho => h ⟨?_, ho.2.1⟩, rfl, rfl, rfl, hk⟩, hd⟩
    simp only [mayTransmit, Bool.and_eq_true, beq_iff_eq, bne_iff_ne, ne_eq]
    exact ⟨ho.1, ho.2.2⟩

/-- A region that takes a string: nothing, or the string from its first cell (R164, R166). -/
theorem retext_eq (m : PowerMode) (now : Nat) (x : List Nat) (v : RegionView) :
    retext (m == .dormant) now x v =
      if v.text = x then v
      else
        { v with
          text := x
          offset := 0
          stepping := false
          deadline := if m = .dormant then none else some (now + 1000) } := by
  unfold retext
  split
  · rfl
  · cases m <;> rfl

/-- Recomposition gives each region its present string (R152, R164). -/
theorem recompose_follows (s t : State) (h : t.display = s.display) : viewsFollow s (recompose t) := by
  unfold viewsFollow
  rw [← h]
  show (recompose t).display = _
  simp only [recompose, retext_eq]
  rfl

/-- What a command is followed by: the drain's end when its terms hold, and then only what begins by
itself. Every statement about a command's next state rests on this one. -/
theorem settle_settles (s : State) : settles s (settle s) := by
  have h := attemptTest_stands (drainTest s)
  have hv := recompose_follows (drainTest s) (attemptTest (holdoffTest (drainTest s)))
    (by rw [h.1])
  unfold settles settle onlyStanding
  obtain ⟨he, ⟨hf, hl⟩, ho, hd⟩ := h
  refine ⟨?_, hf, hl, ho, hv, hd⟩
  have : ∀ a b : State, b = { a with line := b.line, showFifo := b.showFifo, status := b.status, prompts := b.prompts, claim := b.claim } →
      recompose b = { a with line := (recompose b).line, showFifo := (recompose b).showFifo, status := (recompose b).status, prompts := (recompose b).prompts, claim := (recompose b).claim, display := (recompose b).display } := by
    intro a b hb
    rw [hb]
    rfl
  exact this _ _ he

/-- Outside DRAINING the standing conditions end no drain. -/
theorem drainTest_awake {s : State} (h : s.power.mode ≠ .draining) : drainTest s = s := by
  simp [drainTest, h]

/-- Where no attempt may begin, the line, the FIFO and status stand as the command left them (R4). -/
theorem settles_quiet {e t : State} (h : settles e t) (hd : drainTest e = e) (hq : ¬offerOpen e) :
    t.line = e.line ∧ t.showFifo = e.showFifo ∧ t.status = e.status := by
  obtain ⟨-, -, -, ho, -⟩ := h
  rw [hd] at ho
  rcases ho with ⟨-, h1, h2, h3, -⟩ | ⟨ho, -⟩
  · exact ⟨h1, h2, h3⟩
  · exact absurd ho hq

/-- A drain that goes on is not ended by the standing conditions (R175). -/
theorem drainTest_holds {s : State} (h : drainHolds s) : drainTest s = s := by
  unfold drainHolds at h
  unfold drainTest
  rw [if_neg h]

end Sys2Proof.Laws
end

