-- ==== Sys2Proof/Laws/Takes.lean ====
section
/-! SUPPORT. What a take of the queue's head comes to, and the shared effects in closed form: an idle deadline
restarted, a wake, a flag set, a telegram built, and a taken key position. -/

namespace Sys2Proof.Laws

open Sys2Proof.Machine Sys2Proof.Safety

/-- A take in a station that is not in safe mode: the owner acts on the state without the head. -/
theorem takeHead_of_headIs {fits : RxEntry → Bool} {act : RxEntry → State → State} {s : State}
    {e : RxEntry} {rest : List RxEntry} (h : headIs s e rest) (hf : fits e = true) :
    takeHead fits act s = settle (act e (headTaken s rest)) := by
  obtain ⟨hr, hj, he⟩ := h
  simp [takeHead, hr, hj, he, hf, headTaken]

/-- An idle deadline set anew (R173). -/
theorem restartIdle_eq (s : State) : restartIdle s = { s with power := stirred s } := by
  unfold restartIdle stirred idleAnew
  split <;> rfl

/-- An activity (R173). -/
theorem activity_eq (s : State) : activity s = { s with power := stirred s } := restartIdle_eq s

/-- A wake out of DORMANT or DRAINING (R178). -/
theorem leaveSleep_eq (m : PowerMode) (s : State) : leaveSleep m s = awakened m s := by
  unfold leaveSleep awakened wakenedDisplay
  split <;> simp only [restartIdle_eq] <;> rfl

/-- A wake source (R178). -/
theorem wakeSource_eq (s : State) :
    wakeSource s = if asleep s.power.mode = true then awakened .dim s else s := by
  unfold wakeSource
  split <;> simp only [leaveSleep_eq]

/-- The idle deadline drained the station at this instant, and its drain goes on (R180). -/
theorem idleDrainedNow_iff (s : State) : idleDrainedNow s = true ↔ drainsIdle s := by
  simp [idleDrainedNow, drainsIdle]

/-- What a flag writes hangs on nothing but status, start, configuration, line and time. -/
theorem setFlag_status_congr (f : Flag) {s t : State} (h1 : t.status = s.status) (h2 : t.start = s.start)
    (h3 : t.cfg = s.cfg) (h4 : t.line = s.line) (h5 : t.now = s.now) :
    (setFlag f t).status = (setFlag f s).status := by
  simp only [setFlag, alertTest, statInFlight, h1, h2, h3, h4, h5]
  split
  · rfl
  · split <;> rfl

/-- A flag writes status alone. -/
theorem setFlag_eq (f : Flag) (s : State) : setFlag f s = { s with status := (setFlag f s).status } := by
  simp only [setFlag, alertTest]
  split
  · rfl
  · split <;> rfl

/-- The telegram the station builds, field by field (R1, 12.1). -/
theorem makeFrame_eq (k : Kind) (source : Nat) (payload : List Byte) (h : payload.length < 32) :
    makeFrame k source payload = telegramOf (kindPriority k) (kindCode k) source payload := by
  have hl : payload.length % 32 = payload.length := Nat.mod_eq_of_lt h
  cases k <;>
    simp [makeFrame, sealFrame, telegramOf, frameBits, bitsOfBytes, kindPriority, kindCode, hl]
/-- A taken key position: the position, the sampler and the latch; the contacts stay where they or the sampler
read it, and otherwise close for it alone (R143). -/
theorem placeKey_does (p : KeyPosition) (now : Nat) (r : RecallLatch) :
    (placeKey p now r).position = p ∧ (placeKey p now r).latched = r.latched ∧ (placeKey p now r).reading = p
      ∧ (placeKey p now r).readingSince = (if r.reading = p then r.readingSince else now)
      ∧ (r.reading = p ∨ contactPosition r = p →
          (placeKey p now r).onContact = r.onContact ∧ (placeKey p now r).bypassContact = r.bypassContact)
      ∧ (¬(r.reading = p ∨ contactPosition r = p) →
          (placeKey p now r).onContact = (p == .on) ∧ (placeKey p now r).bypassContact = (p == .bypass)) := by
  refine ⟨rfl, ?_, rfl, rfl, fun h => ?_, fun h => ?_⟩
  · simp only [placeKey, placeContacts]; split <;> rfl
  · simp only [placeKey, placeContacts, if_pos h, and_self]
  · simp only [placeKey, placeContacts, if_neg h, and_self]

/-! ### Items whose owner leaves -/

/-- What becomes of the FIFO as the owner of some items leaves. -/
theorem ownerLeaves_eq (its : ShowItem → Bool) (q : List ShowItem) : ownerLeaves its q = withdrawnFrom q its := by
  unfold ownerLeaves withdrawnFrom
  congr 2
  funext i
  cases its i <;> cases i.onLine <;> rfl

/-- No TAKE of a key is left as its record leaves: what stays of it on the line is withdrawn. -/
theorem not_isTakeOf_of_mem {k : AssignKey} {q : List ShowItem} {i : ShowItem}
    (h : i ∈ ownerLeaves (isTakeOf k) q) : isTakeOf k i = false := by
  obtain ⟨j, -, rfl⟩ := List.mem_map.1 h
  split
  · simp [isTakeOf]
  · rename_i other
    simpa using other

/-- No RELEASE of a key is left as its entry leaves. -/
theorem not_isReleaseOf_of_mem {k : AssignKey} {q : List ShowItem} {i : ShowItem}
    (h : i ∈ ownerLeaves (isReleaseOf k) q) : isReleaseOf k i = false := by
  obtain ⟨j, -, rfl⟩ := List.mem_map.1 h
  split
  · simp [isReleaseOf]
  · rename_i other
    simpa using other

/-- Records that leave one after the other withdraw what each of them owns. -/
theorem foldl_ownerLeaves (ps : List PromptRecord) (q : List ShowItem) :
    ps.foldl (fun q p => ownerLeaves (isTakeOf p.key) q) q
      = withdrawnFrom q fun i => ps.any fun p => isTakeOf p.key i := by
  induction ps generalizing q with
  | nil =>
    simp only [withdrawnFrom, List.any_nil, List.foldl_nil, Bool.not_false, Bool.true_or, Bool.false_eq_true,
      if_false, List.map_id']
    exact (List.filter_eq_self.2 fun _ _ => rfl).symm
  | cons p ps ih =>
    rw [List.foldl_cons, ih, ownerLeaves_eq]
    induction q with
    | nil => rfl
    | cons i q ihq =>
      simp only [withdrawnFrom, List.any_cons] at ihq ⊢
      have gone : ∀ k, isTakeOf k { i with withdrawn := true } = false := by simp [isTakeOf]
      cases ho : i.onLine <;> cases hp : isTakeOf p.key i <;>
        cases ha : ps.any fun p => isTakeOf p.key i <;>
        simp_all

/-- A WON SHOW (R118, R129): without its record or entry its item alone leaves. -/
theorem showWon_gone {s : State} (h : ∀ i ∈ s.showFifo, i.onLine = true → i.withdrawn = true) (act : ShowAct)
    (k : AssignKey) : showWon act k s = { s with showFifo := s.showFifo.filter fun i => !i.onLine } := by
  have held : showHeld s = false := by simpa [showHeld] using h
  simp [showWon, held]

/-- The reserved rows are the sum R113 gives. -/
theorem reservedRows_eq (s : State) : reservedRows s = rowsTaken s := by
  have split : ∀ ps : List PromptRecord, (ps.filter reservesRow).length
      = (ps.filter fun p => p.board == .owned).length
        + (ps.filter fun p => p.board != .owned && (p.holdoff.isSome || p.takeQueued)).length := by
    intro ps
    induction ps with
    | nil => rfl
    | cons p ps ih =>
      have one : reservesRow p
          = (p.board == .owned || (p.board != .owned && (p.holdoff.isSome || p.takeQueued))) := by
        unfold reservesRow
        cases p.board <;> rfl
      rw [List.filter_cons, List.filter_cons, List.filter_cons, one]
      cases hb : p.board <;> cases hr : p.holdoff.isSome || p.takeQueued <;> simp <;> omega
  simp only [reservedRows, rowsTaken, split]
  omega

end Sys2Proof.Laws
end

