-- ==== Sys2Proof/WellFormed.lean ====
section
/-! DEFINITION. Which commands are well formed: their operands are ones the line, the keypad or the
tables can hold. A meaning is total and needs none of these checks. -/

namespace Sys2Proof

/-- A telegram carries as many payload bytes as its length says (R3). -/
def Frame.wellFormed (f : Frame) : Bool := f.payload.length == f.length.toNat

/-- A key an ASSIGN can bring: R98 refuses the kiosk addresses 0 and 127 and the tag 0, and the fields
have one byte and two. -/
def AssignKey.wellFormed (k : AssignKey) : Bool :=
  k.kiosk != 0 && k.kiosk != 127 && k.kiosk < 256 && 1 ≤ k.tag && k.tag ≤ 65535

/-- The operands of a command lie in the ranges the manual gives them. -/
def Instr.wellFormed : Instr → Bool
  | .telegramReceived f => f.wellFormed
  -- the memory is read with a three-byte address (12.3)
  | .loadingEnd memory => memory.length ≤ 16777216
  -- at least one key, none twice (R86)
  | .keyDown keys => !keys.isEmpty && decide keys.Nodup
  | .requestTimeout tag => 1 ≤ tag && tag ≤ 65535
  | .localDisplayDeadline k => k.wellFormed
  | .validityDeadline k => k.wellFormed
  | .holdoffDeadline k => k.wellFormed
  | .releaseDeadline k => k.wellFormed
  -- at most 8 regions survive (R151)
  | .scrollDeadline r => r < 8
  | .resetAsserted _ => true
  | .powerOnReset _ _ => true
  | .pinReset _ _ => true
  | .selfCheckEnd _ => true
  | .lineIdle => true
  | .attemptWon => true
  | .attemptLost => true
  | .attemptFault => true
  | .mutedDeadline => true
  | .car => true
  | .stops => true
  | .assign => true
  | .showTake => true
  | .showRelease => true
  | .text => true
  | .textClear => true
  | .recallStart => true
  | .recallEnd => true
  | .night => true
  | .day => true
  | .wakeSleep => true
  | .wakeWake => true
  | .queryStatus => true
  | .queryRestart => true
  | .trackingInstant => true
  | .staleDeadline _ => true
  | .lostDeadline _ => true
  | .chimeToneEnd => true
  | .chimeGapEnd => true
  | .chimeSpacingEnd => true
  | .keyUp _ => true
  | .keyStuck _ => true
  | .entryDeadline => true
  | .promptDeadline => true
  | .idleDeadline => true
  | .drainDeadline => true
  | .recallKeyMove _ => true
  | .assemblyDeadline _ => true
  | .lifeDeadline _ => true
  | .alertHoldOffDeadline => true
  | .lineBusy _ => true
  | .blinkPhaseChange => true

end Sys2Proof
end

