-- ==== Sys2Proof/Tests/Slice0.lean ====
section
/-! SUPPORT. The author's own tests: refused ill-formed commands, a few steps on one small station with the
results the manual gives, and for each statement with hypotheses the states that meet them. -/

namespace Sys2Proof.Tests

set_option maxRecDepth 20000
set_option Elab.async false

open Sys2Proof Sys2Proof.Machine Sys2Proof.Safety

/-! ## A station: the ten floors of 2.2, a board, a kiosk, a position and a notice region -/

/-- A floor of the map of 2.2. -/
def fl (level : Nat) (label : List Nat) (shown : Bool) (served : Nat) : Floor :=
  { level := level, label := label, displayable := shown, served := BitVec.ofNat 8 served }

/-- The floors of 2.2. -/
def tenFloors : List Floor :=
  [fl 0 [66, 49] true 3, fl 5000 [76] true 15, fl 11000 [77] true 3, fl 15200 [50] true 1,
   fl 19400 [51] true 1, fl 23600 [52] false 0, fl 27800 [53] false 0, fl 32000 [54] false 0,
   fl 40000 [83, 55] true 14, fl 44500 [56] true 12]

/-- Car (1, 3), the pinned car. -/
def carD : CarKey := { group := 1, car := 3 }

/-- The key (12, 907) of 7.9. -/
def key907 : AssignKey := { kiosk := 12, tag := 907 }

/-- A configuration with the map of 2.2 and the board values of 7.9. -/
def lobby : Settings :=
  { Settings.none with
    floors := tenFloors
    gaps := gapsOf tenFloors
    switchPoints := switchPointsOf 8 tenFloors
    switchFraction := 8
    hysteresis := 150
    staleTimeout := 3000
    lostTimeout := 20000
    lanternLead := 3000
    requestTimeout := 3000
    replyTime := 6000
    defaultValidity := 60
    holdoffBase := 20
    rowCount := 4
    scrollStep := 80
    activeLevel := 12
    dimLevel := 4
    lineCount := 4
    lineWidth := 32
    trims := [0, 3, -3, 0]
    dormantDelay := 10
    homeFloor := some 1
    groups := 3
    alertMask := 8191
    affinity := [(12, 1)]
    recallText := [70, 73, 82, 69]
    idleText := [72, 73]
    regions :=
      [{ kind := .board, line := 0, first := 0, width := 16, overlay := false },
       { kind := .kiosk, line := 1, first := 0, width := 16, overlay := true },
       { kind := .position carD .lower, line := 2, first := 0, width := 4, overlay := false },
       { kind := .notice, line := 3, first := 0, width := 4, overlay := false }]
    lanterns :=
      [{ output := 0, car := carD, deck := .lower, landing := 1, direction := .up, mode := .pushPull }]
    pinned := [carD] }

/-- Board 23 of 7.9, running with the line busy. -/
def board : State :=
  { State.reset with
    now := 1000
    start := { State.reset.start with stage := .running, config := some .ok, address := 23 }
    cfg := lobby
    line := { LineInterface.afterReset with watch := .busy, tx := .ready }
    cars := [awaitingRecord carD]
    lanterns := lobby.lanterns.map darkLantern
    status := { StatusBlock.afterReset with flags := 0 }
    claim := { lfsr := 5912, claims := 0 }
    display :=
      { regions := lobby.regions.map fun g =>
          { region := g, text := [], offset := 0, deadline := none, stepping := false }
        blinkOn := true } }

/-- The same station with the kiosk alone: no board region. -/
def kiosk : State := { board with cfg := { lobby with regions := lobby.regions.drop 1 } }

/-- A station in a power state, with the deadline DRAINING has. -/
def inMode (m : PowerMode) (s : State) : State :=
  { s with
    power :=
      { mode := m
        night := m != .active
        idleDeadline := some 1000
        drainDeadline := if m = .draining then some 1000 else none } }

/-- A station with its latch SET, the key at OFF. -/
def recalled (s : State) : State := { s with recallLatch := { s.recallLatch with latched := true } }

/-- Bytes. -/
def bs (p : List Nat) : List Byte := p.map (BitVec.ofNat 8)

/-- A queue entry of source 21 that arrived now. -/
def arrived (k : Kind) (p : List Nat) : RxEntry :=
  { kind := k, source := 21, payload := bs p, stamp := 1000 }

/-- A station with one telegram waiting. -/
def holding (k : Kind) (p : List Nat) (s : State) : State :=
  { s with rx := { entries := [arrived k p], congested := false } }

/-- The state after a command. -/
def after (c : Instr) (s : State) : State :=
  match exec c s with
  | .next t => t
  | .fault _ => s
  | .refused _ => s

/-- The flags set, by their bits. -/
def flagsOf (s : State) : Nat := s.status.flags.toNat

/-- A CAR of car (1, 3) at 9,000 mm: PARKED, no direction, door OPEN, NORMAL. -/
def carBytes : List Nat := [19, 1, 0, 35, 40, 0, 0, 0, 0, 0, 2, 0]

/-- The ASSIGN of 7.9. -/
def assignBytes : List Nat := [1, 12, 3, 139, 0, 8, 0, 19, 1, 0]

/-- A record of key (12, 907) with a board state. -/
def record (b : BoardState) : PromptRecord :=
  { key := key907, dest := 8, car := carD, deck := some .lower, cls := .standard, phase := .waiting
    validUntil := 60000, localUntil := none, board := b, holdoff := none, takeQueued := false
    claimant := if b = .watched then some 21 else none
    reassertDone := false
    claimTime := if b = .owned then some 900 else none
    claimOrder := 0 }

/-- Board 23 with one record. -/
def withRecord (p : PromptRecord) : State := { board with prompts := [p] }

/-- A report of car (1, 3). -/
def report : Report :=
  { deckCount := 1, height := 9000, speed := 0, motion := .parked, committed := none, door := .opened
    service := .normal, nextStop := none, stamp := 1000 }

/-- Its record, LIVE. -/
def liveCar : CarRecord :=
  { awaitingRecord carD with
    report := some report, freshness := .live, staleAt := some 1000, lostAt := some 1000
    estimate := some 9000, floor := some 2, shown := [none, none, some 2] }

/-- A request of tag 7. -/
def request (sent : Bool) : Request :=
  { tag := 7, dest := 2, cls := .standard, count := 1, sent := sent, created := 0 }

/-- An attempt of board 23 on the line. -/
def sending (i : TxItem) (s : State) : State :=
  { s with
    line := { s.line with tx := .sending, attempt := some { item := i, frame := statFrame s } } }

/-- An attempt of a SHOW of key (12, 907), its item on the line at the head of the FIFO. -/
def showing (act : ShowAct) (s : State) : State :=
  sending (.shows act key907) { s with showFifo := [{ act := act, key := key907, onLine := true }] }

/-! ## The table's words -/

theorem test_no_word_spells_a_command : decodeTableWord 8 0 = none ∧ decodeTableWord 32 77 = none := by
  decide +kernel

/-! ## Ill-formed commands are refused -/

/-- A telegram of one byte. -/
def shortFrame : Frame := makeFrame .query 1 (bs [23, 1])

theorem test_wf_frame :
    (Instr.telegramReceived shortFrame).wellFormed = true
      ∧ (Instr.telegramReceived { shortFrame with length := 3 }).wellFormed = false := by decide +kernel

theorem test_wf_keys :
    (Instr.keyDown []).wellFormed = false ∧ (Instr.keyDown [.ok, .ok]).wellFormed = false
      ∧ (Instr.keyDown [.ok, .clr]).wellFormed = true := by decide +kernel

theorem test_wf_assign_key :
    (Instr.validityDeadline { kiosk := 0, tag := 1 }).wellFormed = false
      ∧ (Instr.holdoffDeadline { kiosk := 127, tag := 1 }).wellFormed = false
      ∧ (Instr.releaseDeadline { kiosk := 256, tag := 1 }).wellFormed = false
      ∧ (Instr.localDisplayDeadline { kiosk := 1, tag := 0 }).wellFormed = false
      ∧ (Instr.validityDeadline { kiosk := 1, tag := 65536 }).wellFormed = false
      ∧ (Instr.validityDeadline { kiosk := 126, tag := 65535 }).wellFormed = true := by decide +kernel

theorem test_wf_tag_and_region :
    (Instr.requestTimeout 0).wellFormed = false ∧ (Instr.requestTimeout 65536).wellFormed = false
      ∧ (Instr.scrollDeadline 8).wellFormed = false ∧ (Instr.scrollDeadline 7).wellFormed = true := by
  decide +kernel

theorem test_wf_memory (m : List Byte) (h : m.length = 16777217) :
    (Instr.loadingEnd m).wellFormed = false := by
  simp only [Instr.wellFormed, h]
  decide

/-! ## Formats (12.2, 12.4) -/

/-- R195: the check value over "123456789". -/
theorem test_crc : crc16 (bitsOfBytes (bs [49, 50, 51, 52, 53, 54, 55, 56, 57])) = 0x29B1#16 := by decide +kernel

/-- R195: a receiver that takes the CRC bits as well finds zero in the register. -/
theorem test_crc_register_zero :
    crc16 (frameBits shortFrame ++ bitsOf 16 shortFrame.crc.toNat) = 0
      ∧ (telegramBits shortFrame).length = 19 + 8 * 2 + 16 := by decide +kernel

/-- R197: a 0 of one sender wins over a 1 of another. -/
theorem test_bits_on_the_line :
    bitQuarters false = [.dominant, .dominant, .dominant, .recessive]
      ∧ bitQuarters true = [.dominant, .recessive, .recessive, .recessive]
      ∧ sampleBit (List.zipWith wiredAnd (bitQuarters false) (bitQuarters true)) = false := by decide +kernel

/-- R22: the lookups of 2.3. -/
theorem test_lookup :
    lookupText lobby [66, 49] = some 0 ∧ lookupText lobby [83, 55] = some 8
      ∧ lookupText lobby [55] = none ∧ lookupText lobby [48, 56] = none := by decide +kernel

/-- R21: the switch points of 2.2 at P = 8. -/
theorem test_switch_points :
    switchPointsOf 8 tenFloors = [2500, 8000, 13100, 17300, 21500, 25700, 29900, 36000, 42250]
      ∧ (switchPointsOf 5 tenFloors)[2]? = some 12312 := by decide +kernel

/-- R52: the rows of its table. -/
theorem test_displacement :
    displacement 1050 { report with speed := 9000, motion := .runUp } = 450
      ∧ displacement 1003 { report with speed := -7000, motion := .runDown } = -21
      ∧ displacement 1001 { report with speed := -1999, motion := .runDown } = -1
      ∧ displacement 9000 { report with speed := 12000, motion := .runUp } = 4800 := by decide +kernel

/-- R44: the rows of its table. -/
theorem test_stop_lists :
    stopListOf 10 (bs [0, 8, 2, 8, 5]) = [2, 5, 8] ∧ stopListOf 10 (bs [0, 12, 9, 0]) = [0, 9]
      ∧ stopListOf 10 (bs [0, 10, 11]) = [] := by decide +kernel

/-- R115, R116: the steps from 5,912, and the second row of R115. -/
theorem test_lfsr :
    lfsrStep 5912#16 = 2956#16 ∧ lfsrStep 739#16 = 46449#16
      ∧ holdoffLength lobby 12 2956#16 = 36 ∧ holdoffLength lobby 9 2956#16 = 156 := by decide +kernel

/-! ## Resets and start-up -/

theorem test_reset_asserted :
    (after (.resetAsserted .pin) board).start.stage = .heldInReset
      ∧ (after (.resetAsserted .pin) board).status.flags = 1 := by decide +kernel

/-- R116: the seed of address 23 is 5,912. -/
theorem test_power_on_seed : (after (.powerOnReset 23 1) board).claim.lfsr = 5912#16 := by decide +kernel

theorem test_pin_reset_address_127 :
    (after (.pinReset 127 1) board).start.address = 0
      ∧ (after (.pinReset 127 1) board).start.addressRefused = true := by decide +kernel

/-- R185: a memory that answers nothing. -/
theorem test_no_image :
    (after (.loadingEnd []) (after (.powerOnReset 23 1) board)).start.config = some .rejected := by
  decide +kernel

theorem test_self_check :
    (after (.selfCheckEnd .everyBitEqual)
        { board with start := { board.start with stage := .selfCheck } }).line.tx = .ready
      ∧ flagsOf (after (.selfCheckEnd .noCompleteTelegram)
        { board with start := { board.start with stage := .selfCheck } }) = 512 := by decide +kernel

/-- R188: RESTARTED, set before RUNNING, is taken as newly set at its entry. -/
theorem test_start_up_alert :
    (after (.selfCheckEnd .checkFailed)
        { board with
          start := { board.start with stage := .selfCheck }
          status := StatusBlock.afterReset }).status.slot = some .alert := by decide +kernel

/-! ## The line -/

theorem test_telegram_queued :
    (after (.telegramReceived shortFrame) board).rx.entries
      = [{ kind := .query, source := 1, payload := bs [23, 1], stamp := 1000 }] := by decide +kernel

theorem test_telegram_bad_crc :
    flagsOf (after (.telegramReceived { shortFrame with crc := 0 }) board) = 2 := by decide +kernel

theorem test_line_idle_begins_request :
    ((after .lineIdle { board with requests := { entries := [request false], tagCounter := 8 } }).line.attempt.map
      Attempt.item) = some (.req 7) := by decide +kernel

/-- A Pending record whose TAKE waits at the head of the FIFO, behind an item of a record that is gone. -/
def taking : State :=
  { withRecord { record .pending with takeQueued := true } with
    pointer := .shows
    showFifo :=
      [{ act := .firstTake, key := { kiosk := 9, tag := 1 }, onLine := false },
       { act := .firstTake, key := key907, onLine := false }] }

/-- A RELEASE at the head of the FIFO. -/
def releasing : State :=
  { board with
    pointer := .shows
    releases := [{ key := key907, deadline := 1500 }]
    showFifo := [{ act := .release, key := key907, onLine := false }] }

/-- R10, R11: the first item fails its check and is dropped; the TAKE goes out with the payload of 12.1. -/
theorem test_line_idle_begins_take :
    ((after .lineIdle taking).line.attempt.map fun a => (a.item, a.frame.payload))
      = some (.shows .firstTake key907, bs [1, 1, 12, 3, 139])
      ∧ (after .lineIdle taking).showFifo = [{ act := .firstTake, key := key907, onLine := true }] := by
  decide +kernel

theorem test_attempt_won_request :
    (after .attemptWon
      (sending (.req 7) { board with requests := { entries := [request false], tagCounter := 8 } })).requests.entries
      = [request true] := by decide +kernel

/-- R118; R131: with its item purged, the TAKE finds no record, though an ASSIGN has made one of its key. -/
theorem test_attempt_won_take :
    ((after .attemptWon (showing .firstTake
      (withRecord { record .pending with takeQueued := true }))).prompts.map PromptRecord.board) = [.owned]
      ∧ ((after .attemptWon (sending (.shows .firstTake key907)
        (withRecord (record .pending)))).prompts.map PromptRecord.board) = [.pending] := by decide +kernel

/-- R112, R113: the TAKE's record expires while it is on the line, and an ASSIGN makes one of its key before the
WON. With every row reserved meanwhile the new record stays Pending, and only the withdrawn item leaves. -/
def madeAnew : State :=
  after .assign (holding .assign assignBytes
    (after (.validityDeadline key907)
      (showing .firstTake
        { withRecord { record .pending with takeQueued := true, validUntil := 1000 } with
          releases := (List.range 4).map fun n => { key := { kiosk := 9, tag := n + 1 }, deadline := 1500 } })))

theorem test_attempt_won_take_of_one_that_left :
    madeAnew.showFifo.map ShowItem.withdrawn = [true]
      ∧ ((after .attemptWon madeAnew).prompts.map fun p => (p.board, p.takeQueued)) = [(.pending, false)]
      ∧ (after .attemptWon madeAnew).showFifo = [] ∧ (after .attemptLost madeAnew).showFifo.length = 1
      ∧ (after .lineIdle (after .attemptLost madeAnew)).showFifo = [] := by decide +kernel

/-- R129: the entry's deadline passes with its RELEASE on the line, whose WON leaves one made anew. -/
theorem test_attempt_won_release_of_one_that_left :
    (after .attemptWon
        { after (.releaseDeadline key907) (showing .release { releasing with now := 1500 }) with
          releases := [{ key := key907, deadline := 2000 }] }).releases
      = [{ key := key907, deadline := 2000 }] := by decide +kernel

theorem test_attempt_lost :
    (after .attemptLost (sending .stat board)).line.receiving = true
      ∧ (after .attemptLost (sending .stat board)).line.tx = .ready := by decide +kernel

/-- R7, R8: the sixteenth fault. -/
theorem test_attempt_fault :
    (after .attemptFault (sending .stat { board with line := { board.line with faults := 15 } })).line.mutedUntil
      = some 2000
      ∧ (after .attemptFault (sending .stat { board with line := { board.line with faults := 14 } })).line.tx
        = .ready := by decide +kernel

theorem test_muted_deadline :
    (after .mutedDeadline
      { board with line := { board.line with tx := .muted, faults := 16, mutedUntil := some 1000 } }).line.faults
      = 0 := by decide +kernel

/-- R197: less than T/4 before the planned edge at 4 µs is less than 1,000 ns. -/
theorem test_line_busy :
    (after (.lineBusy 999) { board with requests := { entries := [request false], tagCounter := 8 } }).line.tx
      = .sending
      ∧ (after (.lineBusy 1000)
          { board with
            start := { board.start with rateCode := 1 }
            requests := { entries := [request false], tagCounter := 8 } }).line.receiving = true := by
  decide +kernel

/-- A station with a request, which a sender that broke off has left in the middle of a telegram. -/
def brokenOff : State :=
  { board with
    line := { board.line with receiving := true }
    requests := { entries := [request false], tagCounter := 8 } }

/-- R197: the peer's edge less than T/4 before the planned one begins the attempt then too. -/
theorem test_line_busy_broken_off :
    (after (.lineBusy 1999) brokenOff).line.tx = .sending
      ∧ (after (.lineBusy 2000) brokenOff).line.tx = .ready := by decide +kernel

/-! ## Cars, lanterns and chime -/

/-- 2.2: at 9,000 mm and P = 8 the car belongs to floor 2. -/
theorem test_car : ((after .car (holding .car carBytes board)).cars.map CarRecord.floor) = [some 2] := by
  decide +kernel

theorem test_stops :
    ((after .stops (holding .stops [19, 8, 2, 8, 5] { board with cars := [liveCar] })).cars.map
      CarRecord.stops) = [[2, 5, 8]] := by decide +kernel

theorem test_tracking :
    ((after .trackingInstant
      { board with cars := [{ liveCar with report := some { report with height := 5000 } }] }).cars.map
      CarRecord.floor) = [some 1] := by decide +kernel

theorem test_stale : ((after (.staleDeadline carD) { board with cars := [liveCar] }).cars.map
    CarRecord.freshness) = [.stale] := by decide +kernel

theorem test_lost :
    ((after (.lostDeadline carD) { board with cars := [liveCar] }).cars.map CarRecord.freshness) = [.lost]
      ∧ (after (.lostDeadline carD) { board with cars := [{ liveCar with pinned := false }] }).cars = [] := by
  decide +kernel

/-- Strokes for DOWN: two. -/
def strokes2 : ChimeEntry := { output := 0, strokes := 2 }

/-- R81: two strokes. -/
theorem test_chime :
    (after .chimeToneEnd { board with chime := { queue := [], player := .tone strokes2 1 1000 } }).chime.player
      = .gap strokes2 1 1200
      ∧ (after .chimeGapEnd { board with chime := { queue := [], player := .gap strokes2 1 1000 } }).chime.player
        = .tone strokes2 0 1300
      ∧ (after .chimeSpacingEnd { board with chime := { queue := [strokes2], player := .spacing 1000 } }).chime.player
        = .tone strokes2 1 1300 := by decide +kernel

/-! ## Keypad, entry and requests -/

/-- A keypad with one key in a state since a time. -/
def keyed (k : Key) (st : KeyState) (since : Nat) (s : State) : State :=
  { s with
    keypad :=
      { s.keypad with
        keys := s.keypad.keys.map fun r =>
          if r.key = k then { r with state := st, stateSince := since } else r } }

/-- A kiosk with an entry in progress. -/
def entering (b : List Nat) (s : State) : State :=
  { s with entry := { EntryController.idle with entering := true, buffer := b, deadline := some 1000 } }

theorem test_key_character :
    (after (.keyDown [.digit 4]) (entering [49, 50, 51] board)).entry.buffer = [50, 51, 52] := by decide +kernel

theorem test_keys_together :
    (after (.keyDown [.digit 4, .ok]) board).keypad.locked = true
      ∧ (after (.keyDown [.digit 4, .ok]) board).entry.entering = false := by decide +kernel

/-- R94: "8" is a floor of groups 2 and 3 alone; "M" is served. -/
theorem test_ok :
    ((after (.keyDown [.ok]) (entering [56] board)).entry.prompt.map KioskPrompt.content)
      = some (.notServed 9)
      ∧ ((after (.keyDown [.ok]) (entering [77] board)).requests.entries.map Request.dest) = [2] := by
  decide +kernel

theorem test_key_up :
    keyState (after (.keyUp .ok) (keyed .ok .down 0 board)) .ok = .up := by decide +kernel

/-- R87: a key DOWN since 1,000 at 11,000. -/
theorem test_key_stuck :
    flagsOf (after (.keyStuck .ok) { keyed .ok .down 1000 board with now := 11000 }) = 4096
      ∧ flagsOf (after (.keyStuck .ok) { keyed .ok .down 1001 board with now := 11000 }) = 0 := by decide +kernel

theorem test_entry_deadline : (after .entryDeadline (entering [49] board)).entry.entering = false := by
  decide +kernel

theorem test_request_timeout :
    ((after (.requestTimeout 7)
      { board with now := 3000, requests := { entries := [request true], tagCounter := 8 } }).entry.prompt.map
      KioskPrompt.ends) = some 6000 := by decide +kernel

theorem test_prompt_deadline :
    (after .promptDeadline
      { board with
        entry := { EntryController.idle with prompt := some { content := .wait 2, ends := 1000 } } }).entry.prompt
      = none := by decide +kernel

/-! ## The lobby -/

/-- 7.9, race 1: board 23 starts a holdoff of 36 ms. -/
theorem test_assign :
    ((after .assign (holding .assign assignBytes board)).prompts.map PromptRecord.holdoff) = [some 1036] := by
  decide +kernel

/-- The table of R170: an ASSIGN taken in DRAINING leaves the validity and the local part as they are. -/
theorem test_assign_draining :
    ((after .assign (holding .assign assignBytes (inMode .draining
      { releasing with prompts := [{ record .none with localUntil := some 5000 }] }))).prompts.map
        fun p => (p.validUntil, p.localUntil)) = [(60000, some 5000)] := by decide +kernel

/-- 7.9, race 1: 21's TAKE makes 23's record Watched with claimant 21. -/
theorem test_show_take :
    ((after .showTake (holding .shows [1, 1, 12, 3, 139]
      (withRecord { record .pending with holdoff := some 1036 }))).prompts.map
        fun p => (p.board, p.claimant, p.holdoff)) = [(.watched, some 21, none)] := by decide +kernel

/-- 7.9, race 3: the claimant's RELEASE starts a holdoff of 38 ms at the LFSR value 1,478. -/
theorem test_show_release :
    ((after .showRelease (holding .shows [1, 2, 12, 3, 139]
      { withRecord (record .watched) with claim := { lfsr := 2956, claims := 0 } })).prompts.map
        fun p => (p.board, p.holdoff)) = [(.pending, some 1038)] := by decide +kernel

theorem test_prompt_record_deadlines :
    (after (.validityDeadline key907)
        (withRecord { record .owned with validUntil := 1000 })).prompts = []
      ∧ (after (.localDisplayDeadline key907)
        (withRecord { record .none with localUntil := some 1000 })).prompts = []
      ∧ ((after (.holdoffDeadline key907)
        (withRecord { record .pending with holdoff := some 1000 })).showFifo.map ShowItem.act)
          = [.firstTake]
      ∧ (after (.releaseDeadline key907)
        { board with releases := [{ key := key907, deadline := 1000 }] }).releases = [] := by decide +kernel

/-! ## Notices and the recall latch -/

/-- The URGENT part 1 of 2 of text 7, "RV". -/
def partBytes : List Nat := [3, 3, 0, 9, 0, 7, 1, 2, 82, 86]

/-- A slot with part 0 of text 7 present. -/
def halfText : TextSlot :=
  { shown := none, assembly := some { id := 7, parts := [some [79, 70], none], deadline := 2000 } }

/-- 8.2: the completing part shows the joined text for 10,000 ms. -/
theorem test_text :
    (after .text (holding .notice partBytes
      { board with notices := { board.notices with urgent := halfText } })).notices.urgent.shown
      = some { id := 7, text := [79, 70, 82, 86], life := 11000 } := by decide +kernel

theorem test_text_index :
    flagsOf (after .text (holding .notice [3, 3, 0, 9, 0, 8, 3, 3] board)) = 2 := by decide +kernel

/-- A slot that shows text 7. -/
def shownText : TextSlot := { shown := some { id := 7, text := [79], life := 1000 }, assembly := none }

theorem test_text_clear_and_life :
    (after .textClear (holding .notice [4, 3, 0, 9, 0, 7]
      { board with notices := { board.notices with urgent := shownText } })).notices.urgent.shown = none
      ∧ (after (.lifeDeadline .urgent)
        { board with notices := { board.notices with urgent := shownText } }).notices.urgent.shown = none := by
  decide +kernel

theorem test_assembly_deadline :
    flagsOf (after (.assemblyDeadline .urgent)
      { board with now := 2000, notices := { board.notices with urgent := halfText } }) = 256 := by decide +kernel

theorem test_recall :
    (after .recallStart (holding .notice [1, 3, 0, 9] (inMode .dim (withRecord (record .owned))))).prompts = []
      ∧ (after .recallStart (holding .notice [1, 3, 0, 9] (inMode .dim board))).power.mode = .active := by
  decide +kernel

theorem test_recall_end :
    (after .recallEnd (holding .notice [2, 3, 0, 9] (recalled board))).recallLatch.latched = false
      ∧ flagsOf (after .recallEnd (holding .notice [2, 3, 0, 9]
        { recalled board with
          recallLatch := { board.recallLatch with latched := true, position := .on } })) = 2048 := by decide +kernel

theorem test_recall_key :
    (after (.recallKeyMove .on) board).recallLatch.latched = true
      ∧ (after (.recallKeyMove .bypass) (recalled board)).recallLatch.latched = false := by decide +kernel

/-- R143: both contacts closed are ON; when the ON contact then opens, the sampler reads BYPASS. -/
theorem test_both_contacts :
    let both : State :=
      { board with
        recallLatch := { board.recallLatch with onContact := true, bypassContact := true, reading := .on } }
    let l := (after (.recallKeyMove .on) both).recallLatch
    l.position = .on ∧ contactPosition l = .on ∧ contactPosition { l with onContact := false } = .bypass := by
  decide +kernel

/-! ## Power states -/

theorem test_night_and_day :
    (after .night (holding .notice [5, 3, 0, 9] board)).power.mode = .dim
      ∧ (after .day (holding .notice [6, 3, 0, 9] (inMode .dormant board))).power.mode = .active := by
  decide +kernel

/-- 10.9: a DIM board with one row drains, and without one is DORMANT at once. -/
theorem test_wake_sleep :
    ((after .wakeSleep (holding .wake [23, 1, 0, 0, 0]
      (inMode .dim (withRecord (record .owned))))).releases.map ReleaseEntry.deadline) = [1500]
      ∧ (after .wakeSleep (holding .wake [23, 1, 0, 0, 0] (inMode .dim board))).power.mode = .dormant := by
  decide +kernel

/-- R178; R103: from a wake out of DRAINING the entry starts IDLE. -/
theorem test_wake_wake :
    (after .wakeWake (holding .wake [23, 2, 0, 0, 0] (inMode .dormant board))).power.mode = .dim
      ∧ (after .wakeWake (holding .wake [23, 2, 0, 0, 0]
        (entering [77] (inMode .draining releasing)))).entry = EntryController.idle := by decide +kernel

theorem test_idle_and_drain_deadlines :
    (after .idleDeadline (inMode .dim board)).power.mode = .dormant
      ∧ (after .idleDeadline (inMode .active board)).power.mode = .active
      ∧ (after .drainDeadline (inMode .draining
        { board with releases := [{ key := key907, deadline := 1500 }] })).releases = [] := by decide +kernel

/-! ## Status -/

theorem test_query_status :
    (after .queryStatus (holding .query [23, 1] board)).status.slot = some .solicited := by decide +kernel

theorem test_query_restart :
    (after .queryRestart (holding .query [23, 2] board)).start.cause = .line
      ∧ (after .queryRestart (holding .query [23, 2] (recalled board))).start.stage = .running := by decide +kernel

theorem test_alert_hold_off :
    (after .alertHoldOffDeadline
      { board with status := { board.status with holdOff := some 1000, alertPending := true } }).status.slot
      = some .alert := by decide +kernel

/-! ## Display -/

/-- A NOTICE region of width 4 that shows six cells, at the end of its pause. -/
def scrolling : State :=
  { board with
    notices :=
      { board.notices with
        urgent :=
          { shown := some { id := 7, text := [65, 66, 67, 68, 69, 70], life := 9000 }, assembly := none } }
    display :=
      { board.display with
        regions :=
          [{ region := { kind := .notice, line := 3, first := 0, width := 4, overlay := false }
             text := [65, 66, 67, 68, 69, 70], offset := 0, deadline := some 1000, stepping := false }] } }

theorem test_scroll :
    ((after (.scrollDeadline 0) scrolling).display.regions.map fun v => (v.offset, v.deadline))
      = [(1, some 1080)] := by decide +kernel

theorem test_blink :
    (after .blinkPhaseChange { board with now := 1500 }).display.blinkOn = false
      ∧ (after .blinkPhaseChange { board with now := 2000 }).display.blinkOn = true := by decide +kernel

/-- R165: trims of 3 and -3, clamped to 0..15. -/
theorem test_levels :
    lineLevel board 1 = 15 ∧ lineLevel (inMode .dim board) 2 = 1 ∧ lineLevel (inMode .dormant board) 1 = 0 := by
  decide +kernel

/-- R168: the wave of a tone that began at 1,000 is high first, for half of each period, and low from 300 ms on. -/
theorem test_chime_wave :
    let s : State := { board with chime := { queue := [], player := .tone { output := 0, strokes := 1 } 0 1300 } }
    [0, 499, 500, 999, 1000, 299499, 299999, 300000].map (chimeLevel s)
        = [.high, .high, .low, .low, .high, .high, .low, .low]
      ∧ chimeLevel { s with now := 1299 } 499 = .high ∧ chimeLevel { s with now := 1300 } 0 = .low
      ∧ chimeLevel board 0 = .low := by decide +kernel

/-- R151, R155: the string " M" of the PARKED car, centred in the four cells of its region; line 0 has no
region from cell 16 on. -/
theorem test_matrix :
    let s : State := { board with cars := [liveCar] }
    (List.range 4).map (matrixCell s 2) = [some 32, some 32, some 77, some 32]
      ∧ matrixCell s 0 16 = none := by decide +kernel

/-- R157: the stops of a car at floor 2 that is to go up. -/
theorem test_stop_list_region :
    codesOf
        (compose
          { board with
            cars :=
              [{ liveCar with
                 stops := [0, 8]
                 report := some { report with committed := some .up } }] }
          0 { kind := .stoplist carD, line := 0, first := 0, width := 8, overlay := false })
      = [83, 55, 32, 66, 49] := by decide +kernel

/-! ## Witnesses: states and operands that meet the hypotheses of each statement, clause by clause

The station with one telegram waiting meets `headIs` with that telegram as head. -/

/-- `headIs` for a station that holds one telegram. -/
theorem witness_head (k : Kind) (p : List Nat) : headIs (holding k p board) (arrived k p) [] :=
  ⟨rfl, rfl, rfl⟩

/-- The same in a power state, and with the latch SET. -/
theorem witness_head_modes (k : Kind) (p : List Nat) (m : PowerMode) :
    headIs (holding k p (inMode m board)) (arrived k p) []
      ∧ headIs (holding k p (recalled board)) (arrived k p) []
      ∧ headIs (holding k p kiosk) (arrived k p) [] :=
  ⟨⟨rfl, rfl, rfl⟩, ⟨rfl, rfl, rfl⟩, ⟨rfl, rfl, rfl⟩⟩

/-- A station in LOADING, at its address and at address 0. -/
def loading (address : Nat) : State :=
  { State.reset with start := { State.reset.start with address := address } }

/-- The board with its OK contact closed since a time, and the key switch turned to ON since the same time. -/
def pressing (since : Nat) : State :=
  { board with
    keypad :=
      { board.keypad with
        keys := board.keypad.keys.map fun r =>
          if r.key = .ok then { r with contact := true, reading := true, readingSince := since } else r }
    recallLatch := { board.recallLatch with onContact := true, reading := .on, readingSince := since } }

/-- The due and the idle station of StepOnEmptyQueueTicks. -/
theorem witness_StepOnEmptyQueueTicks :
    board.pending = [] ∧ (∀ c, ¬deadlinePassed board c)
      ∧ (inMode .dim board).pending = [] ∧ deadlinePassed (inMode .dim board) .idleDeadline
      ∧ serving board = true ∧ serving (loading 23) = false ∧ recallSampled board
      ∧ ¬recallSampled (after (.resetAsserted .pin) board) := by
  have none : dueCommands board = [] := by decide +kernel
  refine ⟨rfl, fun c => ?_, rfl, ?_⟩
  · rw [← Laws.mem_dueCommands, none]
    exact List.not_mem_nil
  · rw [← Laws.mem_dueCommands]
    decide +kernel

/-- R85, R143: read alike for 20 ms at the new instant, the key goes DOWN and the position is taken; for 19 ms,
nothing yet; and a contact that differs from its reading starts the count. -/
theorem test_debounce :
    (tick (pressing 981)).pending = [.keyDown [.ok], .recallKeyMove .on]
      ∧ (tick (pressing 982)).pending = []
      ∧ ((tick { pressing 981 with keypad := { board.keypad with
          keys := (pressing 981).keypad.keys.map fun r => { r with contact := false } } }).keypad.keys.filter
            fun r => r.readingSince == 1001).map KeyRecord.key = [.ok] := by decide +kernel

/-- A receive queue full with 24 entries, congested. -/
def fullQueue : State :=
  { board with
    rx := { entries := List.replicate 24 (arrived .query [23, 1]), congested := true } }

theorem witness_StepKeepsTheReceiveQueueSafe :
    queueSafe fullQueue ∧ step fullQueue = .next (tick fullQueue) := by
  refine ⟨?_, rfl⟩
  unfold queueSafe
  decide +kernel

theorem witness_StepKeepsTheLineSafe :
    lineSafe (sending .stat board) ∧ lineSafe board ∧ step board = .next (tick board) := by
  refine ⟨?_, ?_, rfl⟩ <;> unfold lineSafe <;> decide +kernel

theorem witness_StepKeepsTheCarTableSafe :
    carsSafe { board with cars := [liveCar] }
      ∧ step { board with cars := [liveCar] } = .next (tick { board with cars := [liveCar] }) := by
  refine ⟨⟨by decide +kernel, by decide +kernel, ?_, ?_, by decide +kernel, by decide +kernel, ?_⟩, rfl⟩
  · intro c hc
    obtain rfl : c = liveCar := by simpa using hc
    refine ⟨?_, ?_, by decide, trivial, by decide, ?_, ?_, ?_⟩
    · intro f hf
      obtain rfl : 2 = f := by simpa [liveCar] using hf
      decide
    · intro d hd
      obtain rfl : d = 2 := by simpa [liveCar] using hd
      decide
    · intro r hr
      obtain rfl : report = r := by simpa [liveCar] using hr
      refine ⟨by decide, by decide, by decide, by decide, ?_⟩
      intro f hf
      cases hf
    · intro h
      rcases h with h | h <;> cases h
    · decide
  · intro h
    exact absurd rfl h
  · intro _ _
    exact ⟨by decide, by decide, by decide⟩

theorem witness_StepKeepsTheChimeQueueAndTheNoticeStoreSafe :
    chimeSafe { board with chime := { queue := [strokes2], player := .spacing 1300 } }
      ∧ noticesSafe { board with notices := { board.notices with urgent := halfText, info := shownText } } := by
  constructor
  · refine ⟨by decide, by decide, ?_, by decide⟩
    intro o ho
    cases ho
  · refine ⟨⟨?_, ?_⟩, ⟨?_, ?_⟩⟩
    · intro a ha
      cases ha
      exact ⟨by decide, ⟨[79, 70], by decide⟩, by decide, by simp⟩
    · intro v hv
      cases hv
    · intro a ha
      cases ha
    · intro v hv
      cases hv
      decide

theorem witness_StepKeepsTheEntryAndTheRequestFileSafe :
    entrySafe (entering [49, 50, 51] board)
      ∧ requestsSafe
          { board with requests := { entries := [request false, request true], tagCounter := 65535 } }
      ∧ (let s : State := { board with requests := { entries := [request false], tagCounter := 8 } }
        requestsSafe s ∧ (heldTags s).Nodup ∧ tagFree s ∧ step s = .next (tick s)) := by
  refine ⟨?_, ?_, ?_, ?_, ?_, rfl⟩
  · unfold entrySafe
    decide
  · unfold requestsSafe
    decide
  · unfold requestsSafe
    decide
  · decide
  · unfold tagFree
    decide

theorem witness_StepKeepsThePromptTableSafe :
    promptsSafe (withRecord (record .owned)) ∧ promptsSafe (withRecord (record .watched))
      ∧ lfsrSafe board := by
  refine ⟨?_, ?_, by unfold lfsrSafe; decide⟩ <;> unfold promptsSafe promptSafe <;> decide

/-- One row, reserved by the mark of a record whose TAKE is on the line; its WON keeps the bound. -/
theorem witness_StepKeepsTheReservedRowsWithinTheRowCount :
    let s : State :=
      { showing .firstTake (withRecord { record .pending with takeQueued := true }) with
        cfg := { lobby with rowCount := 1 }
        pending := [.attemptWon] }
    lineSafe s ∧ promptsSafe s ∧ rowsSafe s ∧ rowsTaken s = 1
      ∧ ∃ t, step s = .next t ∧ t.prompts.map PromptRecord.board = [.owned] := by
  refine ⟨?_, ?_, ?_, by decide +kernel, _, rfl, by decide +kernel⟩
  · unfold lineSafe
    decide +kernel
  · unfold promptsSafe promptSafe
    decide +kernel
  · unfold rowsSafe
    decide +kernel

theorem witness_StepKeepsASetLatchInForceAndDormantQuiet :
    (recalled board).recallLatch.latched = true ∧ latchSafe (recalled board)
      ∧ (inMode .dormant board).power.mode = .dormant ∧ dormantSafe (inMode .dormant board) := by
  unfold latchSafe dormantSafe
  decide +kernel

theorem witness_StepKeepsThePowerStatesSafe :
    powerSafe (inMode .draining board) ∧ powerSafe board ∧ powerSafe (recalled board) := by
  refine ⟨?_, ?_, ?_⟩ <;> unfold powerSafe <;> decide +kernel

theorem witness_QueryRestartIsALineReset :
    byteAt (bs [23, 2]) 1 = 2 ∧ byteAt (bs [23, 2]) 0 = board.start.address
      ∧ board.start.address ≠ 0 ∧ board.recallLatch.latched = false ∧ awake board.power.mode = true
      ∧ awake (inMode .dormant board).power.mode = false
      ∧ byteAt (bs [127, 2]) 0 ≠ board.start.address
      ∧ board.start.resetPinAsserted = false ∧ board.start.supplyLow = false
      ∧ (recalled board).recallLatch.latched = true
      ∧ running board = true ∧ board.start.config ≠ some .rejected
      ∧ running { board with start := { board.start with config := some .rejected } } = true := by decide +kernel

theorem witness_LoadingEndDecidesTheConfiguration :
    (loading 23).start.stage = .loading ∧ (loading 23).start.address ≠ 0
      ∧ (loading 0).start.stage = .loading ∧ (loading 0).start.address = 0
      ∧ (loading 0).power.mode = .active ∧ loadImage [] 0 = none := by decide

theorem witness_SelfCheckEndEntersRunning :
    ({ board with start := { board.start with stage := .selfCheck } }).start.stage = .selfCheck
      ∧ board.power.mode = .active ∧ board.start.config ≠ some .rejected ∧ board.start.address ≠ 0
      ∧ (some 1000 : Option Nat) = some board.now ∧ ¬board.now ≤ 999
      ∧ ({ board with
            start := { board.start with stage := .selfCheck, config := some .rejected } }).start.config
          = some .rejected
      ∧ board.status.slot = none ∧ board.status.holdOff = none
      ∧ hasFlag StatusBlock.afterReset.flags .restarted = true ∧ hasFlag lobby.alertMask .restarted = true
      ∧ ({ board.status with slot := some StatOrigin.alert }).slot.isSome = true := by decide +kernel

/-- The bytes of an image: the values of bytes 4..34, no affinity, recall text "A", idle text "B", the codes of
every car name, one region and one lantern, the floor entries, and a CRC. -/
def imageOf (values : List Nat) (name : Nat) (region lantern : List Nat) (floors : List (List Nat)) (crc : List Nat) :
    List Byte :=
  bs ([3] ++ [(413 + 8 * floors.length) / 256, (413 + 8 * floors.length) % 256, floors.length] ++ values
    ++ List.replicate 16 0 ++ [65] ++ List.replicate 63 0 ++ [66] ++ List.replicate 63 0 ++ List.replicate 128 name
    ++ region ++ List.replicate 49 0 ++ lantern ++ (List.replicate 7 [255, 0, 0, 0, 0, 0]).flatten
    ++ floors.flatten ++ crc)

/-- Values that lie in their ranges. -/
def goodValues : List Nat :=
  [8, 0, 150, 11, 184, 78, 32, 11, 184, 11, 184, 23, 112, 60, 20, 4, 80, 12, 4, 4, 32, 0, 3, 253, 255, 10, 255, 255,
   1, 31, 255]

/-- Floor "0" at 0 mm, and floor "1" at 1,000 mm. -/
def floorZero : List Nat := [0, 0, 0, 48, 0, 0, 1, 1]
def floorOne : List Nat := [0, 3, 232, 49, 0, 0, 1, 1]

/-- An image in which nothing is clamped, replaced or dropped: a POSITION region of car (1, 3), and one lantern
of it. -/
def fineImage : List Byte :=
  imageOf goodValues 65 [1, 0, 0, 4, 1, 19, 1] [0, 19, 1, 1, 1, 0] [floorZero, floorOne] [209, 63]

/-- The same with values below their ranges, no car name, a region of a kind that does not exist and a lantern
on a landing that does not exist. -/
def smallImage : List Byte :=
  imageOf (8 :: List.replicate 30 0) 0 [6, 0, 0, 4, 1, 19, 1] [0, 3, 1, 2, 1, 0] [floorZero, floorOne] [43, 165]

/-- Accepted whole, at the shortest length and the least gap the manual allows. -/
theorem test_fine_image :
    ((loadImage fineImage 23).map fun r =>
      (([r.1.floors.length, r.1.regions.length, r.1.lanterns.length], r.1.pinned), r.1.switchPoints, r.2))
      = some (([2, 1, 1], [carD]), [500], false) := by decide +kernel

/-- An accepted image at address 0. -/
theorem witness_LoadingEndAtAddressZero : (loadImage fineImage 0).isSome = true := by decide +kernel

/-- R187, R190, 12.1: the test STAT of a station whose image is rejected, the key at ON. -/
theorem test_self_check_stat :
    (after (.loadingEnd [])
        { loading 23 with recallLatch := { (loading 23).recallLatch with position := .on } }).line.testStat
      = some (telegramOf 6 8 23 (bs [23, 0, 2, 0, 0, 1, 0, 0, 0, 0, 0, 1])) := by decide +kernel

/-- R1, 12.1: a telegram of one byte, its CRC over the 27 bits before it. -/
theorem test_telegramOf :
    telegramOf 7 9 1 (bs [23, 1]) = shortFrame
      ∧ (makeFrame .req 5 (bs [1, 0, 7, 2, 0, 1])).crc = (telegramOf 3 6 5 (bs [1, 0, 7, 2, 0, 1])).crc := by
  decide +kernel

/-- Accepted in part. -/
theorem test_small_image :
    ((loadImage smallImage 23).map fun r => (r.1.regions.length, r.1.lanterns.length, r.2)) = some (0, 0, true) := by
  decide +kernel

theorem witness_AcceptedImagesPassTheirChecks :
    (∃ c, loadImage fineImage 23 = some (c, false)) ∧ itemDeck 1 = some .lower ∧ lanternDirection 1 = some .up
      ∧ driveModeOf 0 = some .pushPull ∧ (regionKindOf 1 19 1).isSome = true := by
  obtain ⟨⟨c, p⟩, h, e⟩ := Option.map_eq_some_iff.1 test_fine_image
  simp only [Prod.mk.injEq] at e
  obtain ⟨-, -, rfl⟩ := e
  exact ⟨⟨c, h⟩, by decide⟩

theorem witness_SwitchPointsSeparateTheLevels :
    ∃ c p, loadImage fineImage 23 = some (c, p) ∧ 0 + 1 < c.floors.length := by
  obtain ⟨⟨c, p⟩, h, e⟩ := Option.map_eq_some_iff.1 test_fine_image
  simp only [Prod.mk.injEq, List.cons.injEq] at e
  exact ⟨c, p, h, by omega⟩

/-- One image for each failed check before the map: format code, length field, lengths at both ends, a memory
that stops short, and the CRC alone. -/
theorem witness_BadImagesAreRejected :
    loadImage [] 23 = none ∧ loadImage (bs [3, 1, 172, 2]) 23 = none ∧ loadImage (bs [3, 1, 165, 1]) 23 = none
      ∧ loadImage (bs [3, 5, 165, 129]) 23 = none ∧ loadImage (fineImage.take 428) 23 = none
      ∧ loadImage (fineImage.set 428 0) 23 = none := by decide +kernel

/-- R20: the gap at 1,000 and at 60,000 mm passes, at 999 and 60,001 it fails; so do a label with a character
after a fill byte, a letter of no label, two equal labels, and the order. -/
theorem test_floor_maps :
    let map (f : List Nat) : Bool :=
      mapGood (imageOf goodValues 65 [0, 0, 0, 0, 0, 0, 0] [255, 0, 0, 0, 0, 0] [floorZero, f] [0, 0])
    [floorOne, [0, 234, 96, 49, 0, 0, 1, 1]].all map = true
      ∧ [[0, 3, 231, 49, 0, 0, 1, 1], [0, 234, 97, 49, 0, 0, 1, 1], [0, 3, 232, 49, 0, 49, 1, 1],
          [0, 3, 232, 65, 0, 0, 1, 1], [0, 3, 232, 48, 0, 0, 1, 1], [0, 0, 0, 49, 0, 0, 1, 1]].any map = false := by
  decide +kernel

theorem witness_TelegramsAreCheckedFilteredAndQueued :
    State.reset.line.watch = .off ∧ board.line.watch = .busy ∧ board.line.tx ≠ .sending
      ∧ checkedKind { shortFrame with crc := 0 } = none ∧ checkedKind shortFrame = some .query
      ∧ admits board .query shortFrame.payload = true
      ∧ admits (recalled board) .query (bs [24, 1]) = false
      ∧ merges (arrived .car carBytes) [arrived .car carBytes] = true
      ∧ merges (arrived .query [23, 1]) fullQueue.rx.entries = false
      ∧ 24 ≤ fullQueue.rx.entries.length
      ∧ checkedKind { shortFrame with kind := 10 } = none ∧ shortFrame.crc = crc16 (frameBits shortFrame)
      ∧ (18 ≤ (List.replicate 17 (arrived .query [23, 1])).length + 1)
      ∧ ¬18 ≤ (List.replicate 16 (arrived .query [23, 1])).length + 1 := by decide +kernel

theorem witness_TheFilterFollowsItsTables :
    rejected { board with start := { board.start with config := some .rejected } } = true
      ∧ rejected board = false ∧ (inMode .draining board).power.mode = .draining
      ∧ (inMode .dormant board).power.mode = .dormant
      ∧ admits (inMode .dormant board) .notice (bs [3, 3, 0, 9, 0]) = true
      ∧ admits (inMode .dormant board) .notice (bs [3, 3, 0, 9, 1]) = false
      ∧ inScope { lobby with homeFloor := none } 1 9 3 = true ∧ inScope lobby 1 1 1 = true
      ∧ inScope lobby 1 2 255 = false := by decide +kernel

/-- A telegram of a peer is being received. -/
def receiving : State := { board with line := { board.line with receiving := true } }

theorem witness_LineIdleFreesTheLine :
    ({ board with line := { board.line with watch := .joining } }).line.watch = .joining
      ∧ board.line.watch = .busy ∧ board.line.tx ≠ .sending ∧ board.line.receiving = false
      ∧ receiving.line.receiving = true ∧ (sending .stat board).line.tx = .sending := by decide +kernel

/-- Every class has something, and the pointer stands at each. -/
def offering (pointer : TxClass) : State :=
  { taking with
    pointer := pointer
    requests := { entries := [request true, request false], tagCounter := 8 }
    status := { taking.status with slot := some .alert } }

theorem witness_IdleLineBeginsTheFirstOffer :
    board.line.watch = .busy ∧ board.line.tx = .ready ∧ board.line.receiving = false
      ∧ board.power.mode ≠ .dormant ∧ drainHolds board ∧ drainHolds (inMode .draining releasing)
      ∧ (offering .req).requests.entries.find? (fun q => !q.sent) = some (request false)
      ∧ (offering .stat).status.slot.isSome = true
      ∧ taking.showFifo = [{ act := .firstTake, key := { kiosk := 9, tag := 1 }, onLine := false }]
          ++ { act := .firstTake, key := key907, onLine := false } :: [] := by
  unfold drainHolds
  decide +kernel

/-- The offer at the pointer's own class, one passed on by an empty class, and nothing to offer. -/
theorem witness_offers :
    (comesTo (offering .req) .req ∧ comesTo (offering .shows) .shows ∧ comesTo (offering .stat) .stat)
      ∧ (comesTo { offering .stat with status := taking.status } .req
        ∧ comesTo { taking with pointer := .req } .shows)
      ∧ nothingIn board .req ∧ nothingIn board .shows ∧ nothingIn board .stat :=
  ⟨⟨fun _ h => (nomatch h), fun _ h => (nomatch h), fun _ h => (nomatch h)⟩,
    ⟨List.forall_mem_singleton.2 rfl, List.forall_mem_singleton.2 fun _ h => nomatch h⟩,
    ⟨fun _ h => (nomatch h), id, rfl⟩⟩

/-- A TAKE of the key behind a reassert of it that fails: the drop of the first clears the mark that the second
needs (R11, R117). -/
def markedTwice : State :=
  { withRecord { record .pending with takeQueued := true } with
    showFifo :=
      [{ act := .reassert, key := key907, onLine := false },
       { act := .firstTake, key := key907, onLine := false }] }

/-- Item by item: the FIFO of `taking` offers its second item, that of `markedTwice` nothing, and the station
then receives (R11, R117, R197). -/
theorem witness_showOffered :
    showOffered taking taking.showFifo ∧ ¬showOffered markedTwice markedTwice.showFifo
      ∧ (after (.lineBusy 0) markedTwice).line.receiving = true
      ∧ (after (.lineBusy 0) taking).line.tx = .sending := by
  rw [← Laws.dropUnsent_offers, ← Laws.dropUnsent_offers]
  decide +kernel

/-- The first item of `taking` is dropped, and the second passes in its turn. -/
theorem witness_droppedInTurn :
    let first : ShowItem := { act := .firstTake, key := { kiosk := 9, tag := 1 }, onLine := false }
    droppedInTurn taking [first]
      ∧ passesCheck (afterDrops taking [first]) { act := .firstTake, key := key907, onLine := false } := by
  simp only [droppedInTurn, ← Laws.mayOffer_iff]
  decide +kernel

/-- The check of R11 by its terms: a first take that passes and one that fails, a reassert, and a release. -/
theorem witness_passesCheck :
    passesCheck taking { act := .firstTake, key := key907, onLine := false }
      ∧ ¬passesCheck taking { act := .firstTake, key := { kiosk := 9, tag := 1 }, onLine := false }
      ∧ passesCheck (withRecord (record .owned)) { act := .reassert, key := key907, onLine := false }
      ∧ passesCheck releasing { act := .release, key := key907, onLine := false } := by
  simp only [← Laws.mayOffer_iff]
  decide +kernel

theorem witness_WonOwnTelegramsAreSettledByTheirOwners :
    (sending (.req 7) board).line.tx = .sending
      ∧ (sending (.req 7) board).line.attempt.map Attempt.item = some (.req 7)
      ∧ (showing .release releasing).line.attempt.map Attempt.item = some (.shows .release key907)
      ∧ (∃ i ∈ (showing .release releasing).showFifo, i.onLine = true ∧ i.withdrawn = false)
      ∧ (¬∃ i ∈ (sending (.shows .release key907) releasing).showFifo, i.onLine = true ∧ i.withdrawn = false)
      ∧ (sending .stat board).line.attempt.map Attempt.item = some .stat := by decide +kernel

theorem witness_WonTakeFollowsTheTableOfR118 :
    ShowAct.reassert ≠ .release ∧ ShowAct.firstTake ≠ .release
      ∧ (showing .firstTake (withRecord (record .pending))).line.attempt.map Attempt.item
          = some (.shows .firstTake key907)
      ∧ (∃ i ∈ (showing .firstTake (withRecord (record .pending))).showFifo,
          i.onLine = true ∧ i.withdrawn = false)
      ∧ (¬∃ i ∈ madeAnew.showFifo, i.onLine = true ∧ i.withdrawn = false)
      ∧ madeAnew.line.attempt.map Attempt.item = some (.shows .firstTake key907)
      ∧ findPrompt (withRecord (record .pending)).prompts key907 = some (record .pending)
      ∧ findPrompt (withRecord (record .owned)).prompts key907 = some (record .owned)
      ∧ (record .watched).claimant = some 21 ∧ board.start.address < 24 ∧ 21 < board.start.address
      ∧ (inMode .draining board).power.drainDeadline = some 1000
      ∧ (sending .stat (inMode .draining board)).line.watch = .busy := by decide +kernel

theorem witness_LostFaultAndMutedKeepTheTelegram :
    (sending .stat board).line.tx = .sending ∧ (sending .stat board).line.attempt.isSome = true
      ∧ board.line.faults + 1 < 16
      ∧ ({ board with line := { board.line with faults := 15 } }).line.faults + 1 = 16
      ∧ ({ board with line := { board.line with tx := .muted, mutedUntil := some 1000 } }).line.mutedUntil
          = some board.now
      ∧ (sending .stat board).line.watch = .busy
      ∧ ¬((sending .stat (inMode .draining releasing)).power.mode = .draining ∧ releasing.releases = [])
      ∧ (offering .stat).status.slot.isSome = true := by
  decide +kernel

/-- With a request to offer and without, at a quarter of 8 microseconds. -/
theorem witness_LineBusyReceivesOrBegins :
    brokenOff.line.watch = .busy ∧ brokenOff.line.tx = .ready ∧ brokenOff.line.receiving = true
      ∧ board.line.receiving = false ∧ brokenOff.power.mode ≠ .dormant ∧ drainHolds brokenOff
      ∧ brokenOff.start.rateCode.toNat = 0 ∧ brokenOff.pointer = .req
      ∧ (∃ r ∈ brokenOff.requests.entries, r.sent = false)
      ∧ State.reset.line.watch = .off ∧ (sending .stat board).line.tx = .sending
      ∧ ({ board with line := { board.line with watch := .joining } }).line.watch = .joining
      ∧ brokenOff.requests.entries.find? (fun q => !q.sent) = some (request false) := by
  unfold drainHolds
  decide +kernel

theorem witness_FlagsAreSetAndAlerted :
    statInFlight (sending .stat board) = true ∧ hasFlag State.reset.status.flags .restarted = true
      ∧ State.reset.start.address = 0 ∧ hasFlag State.reset.cfg.alertMask .keyStuck = false
      ∧ board.start.stage = .running ∧ board.start.address ≠ 0
      ∧ hasFlag board.status.flags .keyStuck = false ∧ hasFlag board.cfg.alertMask .keyStuck = true
      ∧ board.status.slot = none ∧ holdOffRunning board.now board.status = false
      ∧ holdOffRunning 1000 { board.status with holdOff := some 1000 } = true
      ∧ holdOffRunning 1000 { board.status with holdOff := some 999 } = false := by decide +kernel

theorem witness_StatSlotIsFilledByQueryAndHoldOff :
    running (holding .query [23, 1] board) = true
      ∧ (holding .query [23, 1] board).rx.entries = [arrived .query [23, 1]]
      ∧ byteAt (bs [23, 1]) 1 = 1 ∧ byteAt (bs [23, 0]) 1 ≠ 2 ∧ byteAt (bs [23, 0]) 1 ≠ 1
      ∧ awake board.power.mode = true ∧ awake (inMode .dormant board).power.mode = false
      ∧ board.status.slot = none
      ∧ ({ board with status := { board.status with holdOff := some 1000 } }).status.holdOff
          = some board.now := by decide +kernel

/-- A DRAINING station whose idle deadline drained it at a time, with a claim to release. -/
def drainedAt (t : Nat) : State :=
  { inMode .draining board with
    releases := [{ key := key907, deadline := 1500 }]
    power := { (inMode .draining board).power with idleDrainAt := some t } }

/-- A CAR of the pinned car, RUN_UP. -/
def runningBytes : List Nat := [19, 1, 0, 35, 40, 0, 0, 0, 1, 0, 0, 0]

/-- R178, R180: at the instant of the idle drain an activity leaves the station DRAINING and a wake source that is
none wakes it; 1 ms later both wake it. -/
theorem test_idle_drain_and_activity :
    (after .car (holding .car runningBytes (drainedAt 1000))).power.mode = .draining
      ∧ (after .car (holding .car runningBytes (drainedAt 1000))).power.idleDeadline = some 601000
      ∧ (after .car (holding .car runningBytes (drainedAt 999))).power.mode = .dim
      ∧ (after .text (holding .notice [3, 3, 0, 9, 0, 7, 0, 1, 65] (drainedAt 1000))).power.mode = .draining
      ∧ (after .text (holding .notice [3, 3, 0, 9, 0, 7, 0, 2, 65] (drainedAt 1000))).power.mode = .dim
      ∧ (after .text (holding .notice [3, 3, 0, 9, 0, 7, 0, 1, 65] (drainedAt 999))).power.mode = .dim
      ∧ (after .idleDeadline
          (inMode .dim (withRecord (record .owned)))).power.idleDrainAt = some 1000 := by decide +kernel

/-- A report exactly as old as the stale and as the lost timeout, and one 1 ms younger. -/
theorem witness_CarReportsAreCheckedAgedAndEntered :
    (reportOf 10 (arrived .car carBytes)).isSome = true
      ∧ reportOf 10 (arrived .car [19, 3, 0, 35, 40, 0, 0, 0, 0, 0, 2, 0]) = none
      ∧ lobby.lostTimeout ≤ 21000 - report.stamp ∧ ¬lobby.lostTimeout ≤ 20999 - report.stamp
      ∧ drainHolds board ∧ findCar board.cars carD ≠ none ∧ isPinned board carD = true
      ∧ findCar board.cars { group := 0, car := 0 } = none ∧ board.cars.length < 32
      ∧ 32 ≤ (List.replicate 32 liveCar).length := by
  unfold drainHolds
  decide +kernel

theorem witness_StopListsAreNormalised :
    20 ∈ ((bs (0 :: List.range 21)).drop 1).map BitVec.toNat ∧ 20 < 30
      ∧ 20 ∉ stopListOf 30 (bs (0 :: List.range 21))
      ∧ headIs (holding .stops [19, 8] { board with cars := [liveCar] }) (arrived .stops [19, 8]) []
      ∧ drainHolds (holding .stops [19, 8] { board with cars := [liveCar] })
      ∧ liveCar.key = carKeyOf (byteAt (arrived .stops [19, 8]).payload 0) ∧ liveCar.freshness = .live := by
  unfold headIs drainHolds
  decide +kernel

theorem witness_StopsReplaceTheStopList : (arrived .stops [19, 8]).kind = .stops ∧ liveCar.freshness = .live := by
  decide

theorem witness_TrackingInstantEvaluatesLiveRecords :
    board.now % 10 = 0 ∧ serving board = true ∧ (([liveCar] : List CarRecord).map CarRecord.key).Nodup
      ∧ drainHolds board ∧ drainHolds (inMode .draining releasing) ∧ (record .owned).phase = .waiting
      ∧ ({ record .owned with phase := .boarding }).phase = .boarding := by
  unfold drainHolds
  decide +kernel

theorem witness_CarDeadlinesHoldOrGiveUpTheRecord :
    (([liveCar] : List CarRecord).map CarRecord.key).Nodup ∧ liveCar.key = carD ∧ liveCar.freshness = .live
      ∧ liveCar.staleAt = some 1000 ∧ liveCar.lostAt = some 1000 ∧ 1000 ≤ board.now
      ∧ liveCar.pinned = true ∧ ({ liveCar with pinned := false }).pinned = false := by decide +kernel

/-- R53: the two single evaluations of 4.6, on the stops of 2.2: a stop ahead, at the car, and behind it. -/
theorem test_next_stop_clamp :
    let up : Report := { report with motion := .runUp, nextStop := some 2 }
    nextStopClamp lobby { up with height := 10000 } 12000 = 11000
      ∧ nextStopClamp lobby { up with height := 11000 } 12000 = 11000
      ∧ nextStopClamp lobby { up with height := 11001 } 12000 = 12000
      ∧ nextStopClamp lobby { up with motion := .runDown, height := 10999 } 9000 = 9000
      ∧ nextStopClamp lobby { up with motion := .runDown, height := 11000 } 9000 = 11000
      ∧ nextStopClamp lobby { up with motion := .levelling } 12000 = 12000 := by decide +kernel

theorem witness_EstimatesStayWithinTheHorizon :
    (-12000 : Int) ≤ ({ report with speed := -12000, motion := .runDown }).speed
      ∧ ({ report with speed := 12000, motion := .runUp }).speed ≤ 12000
      ∧ report.motion = .parked ∧ levelOf lobby 0 ≤ levelOf lobby (lobby.floors.length - 1) := by decide

theorem witness_StepsEndAtTheCountOfSwitchPoints :
    ascending lobby.switchPoints ∧ 9 ≤ lobby.switchPoints.length ∧ lobby.switchPoints[0]? = some 2500
      ∧ lobby.switchPoints[9 - 1]? = some 42250 := by
  refine ⟨?_, by decide, by decide, by decide⟩
  simp [ascending, lobby, switchPointsOf, tenFloors, fl]

theorem witness_IndicationsAreStable :
    liveCar.report = some report ∧ liveCar.floor = some 2 ∧ 2 < lobby.floors.length ∧ mapSafe lobby
      ∧ ascending lobby.switchPoints ∧ lobby.switchPoints.length + 1 = lobby.floors.length
      ∧ (newCar carD).floor = none ∧ (newCar carD).report = none ∧ report.motion = .parked
      ∧ lobby.floors ≠ [] ∧ (lobby.regions[2]?).map Region.kind = some (.position liveCar.key .lower) := by
  refine ⟨rfl, rfl, by decide, ?_, ?_, by decide⟩
  · unfold mapSafe
    decide
  · simp [ascending, lobby, switchPointsOf, tenFloors, fl]

/-- R57 to R60, R64: from floor 4 in the express zone of 2.2 (floors 5 to 7 are not displayable): an up step and
the floor shown below the zone; the levelling car at its stop; the parked one halfway between two levels; and
one with no floor held yet, shown at the nearest displayable floor below. -/
theorem test_evaluations :
    let at_ (m : Motion) (h : Nat) (stop f : Option Nat) (shown : List (Option Nat)) : Option Nat × List (Option Nat) :=
      let c := evaluate lobby 1000
        { liveCar with
          report := some { report with motion := m, height := h, nextStop := stop }, floor := f, shown := shown }
      (c.floor, c.shown)
    at_ .runUp 21650 none (some 4) [none, none, some 8, none] = (some 5, [none, none, some 8, none])
      ∧ at_ .runUp 21649 none (some 4) [] = (some 4, [none, none, some 4, none])
      ∧ at_ .levelling 0 (some 8) (some 4) [] = (some 8, [none, none, some 8, none])
      ∧ at_ .parked 2500 none (some 4) [] = (some 0, [none, none, some 0, none])
      ∧ at_ .parked 30000 none none [] = (some 7, [none, none, some 4, none]) := by decide +kernel

/-- Its lantern, DARK. -/
def lantern : Lantern := darkLantern
  { output := 0, car := carD, deck := .lower, landing := 1, direction := .up, mode := .pushPull }

theorem witness_LanternTestsFollowTheirConditions :
    liveCar.report = some report ∧ lantern.lit = false ∧ ({ lantern with lit := true }).lit = true := by decide

/-- R73 to R75: the approach case at the lead of 3,000 mm and past it, and the upper deck one floor above its stop,
with no mark; the standing case with one. -/
theorem test_lantern_lights :
    let test (e : LanternEntry) (r : Report) (x : Int) (f : Nat) : Bool × Bool :=
      let l := (testLantern lobby .active 1000
        { liveCar with report := some { r with committed := some .up }, estimate := some x, floor := some f }
        silentChime { lantern with entry := e }).1
      (l.lit, l.doorSeen)
    let coming : Report := { report with motion := .runUp, nextStop := some 1, deckCount := 2, door := .closed }
    test lantern.entry coming 2000 0 = (true, false) ∧ test lantern.entry coming 1999 0 = (false, false)
      ∧ test lantern.entry coming 5001 0 = (false, false)
      ∧ test { lantern.entry with deck := .upper, landing := 2 } coming 5000 0 = (true, false)
      ∧ test lantern.entry report 5000 1 = (true, true) := by decide +kernel

theorem witness_ChimeRequestsAndTimings :
    playing (.tone strokes2 1 1000) = some strokes2.output ∧ 4 ≤ (List.replicate 4 strokes2).length
      ∧ playing Player.idle ≠ some strokes2.output ∧ ([] : List ChimeEntry).length < 4
      ∧ playing (.spacing 1300) ≠ some strokes2.output ∧ Player.spacing 1300 ≠ .idle
      ∧ 1000 ≤ board.now := by decide +kernel

theorem witness_KeysAreTakenOneAtATime :
    serving board = true ∧ goingDown [.ok] board = [.ok] ∧ goingDown [] board = []
      ∧ 2 ≤ (goingDown [.ok, .clr] board).length ∧ board.keypad.locked = false
      ∧ (∀ r ∈ board.keypad.keys, r.state ≠ .down)
      ∧ (∃ r ∈ (keyed .clr .down 0 board).keypad.keys, r.state = .down)
      ∧ goingDown [.ok] (keyed .clr .down 0 board) = [.ok]
      ∧ kioskJob { lobby with regions := [] } = false := by decide +kernel

theorem witness_KeysEditTheEntry :
    takesKey board (.digit 4) ∧ entryListens board ∧ takesKey (entering [] board) .clr
      ∧ entryListens (inMode .draining board) ∧ takesKey (inMode .draining board) .ok
      ∧ keyChar (.digit 4) = some 52
      ∧ (entering [49, 50, 51] board).entry.buffer.length = 3 := by
  unfold takesKey entryListens
  decide +kernel

theorem witness_OkResolvesTheEntry :
    takesKey (entering [77] board) .ok ∧ entryListens (entering [77] board)
      ∧ takesKey (entering [77] (inMode .draining board)) .ok
      ∧ entryListens (entering [77] (inMode .draining board)) ∧ board.power.mode ≠ .draining
      ∧ (entering [77] board).entry.entering = true ∧ lookupText lobby [77] = some 2
      ∧ lookupText lobby [] = none ∧ lookupText lobby [76] = some 1 ∧ lobby.homeFloor = some 1
      ∧ servedAt lobby 9 &&& lobby.groups = 0 ∧ isDisplayable lobby 5 = false
      ∧ servedAt lobby 2 &&& lobby.groups ≠ 0 ∧ isDisplayable lobby 2 = true
      ∧ 4 ≤ (List.replicate 4 (request true)).length := by
  unfold takesKey entryListens
  decide +kernel

theorem witness_KeysGoUpOrStick :
    serving board = true ∧ keyState (keyed .ok .down 0 board) .ok ≠ .up
      ∧ ((keyed .ok .down 0 board).keypad.keys.map KeyRecord.key).Nodup
      ∧ (∃ r ∈ ({ keyed .ok .down 1000 board with now := 11000 }).keypad.keys,
          r.key = .ok ∧ r.state = .down ∧ r.stateSince + 10000 ≤ 11000) := by decide +kernel

theorem witness_KioskDeadlinesPass :
    (entering [49] board).entry.entering = true ∧ (entering [49] board).entry.deadline = some board.now
      ∧ (([request true] : List Request).map Request.tag).Nodup
      ∧ (request true).created + lobby.requestTimeout ≤ 3000
      ∧ ({ content := PromptContent.busy 2, ends := 1000 } : KioskPrompt).ends ≤ board.now := by
  decide +kernel

/-- The ASSIGN of 7.9 as it is read. -/
def assign907 : AssignFields :=
  { key := key907, result := .assigned, dest := 8, cls := .standard, car := carD, deck := some .lower
    validity := 0 }

/-- The kiosk with its own REQ of tag 907 Sent. -/
def asked : State :=
  { kiosk with
    start := { kiosk.start with address := 12 }
    requests := { entries := [{ request true with tag := 907 }], tagCounter := 908 } }

/-- The same at a station that is kiosk and board, with a record of the key or a full table. -/
def askedBoth (ps : List PromptRecord) : State := { asked with cfg := lobby, prompts := ps }

/-- A record that a local part alone keeps, and one that has a board state too. -/
def localOnly : PromptRecord := { record .none with localUntil := some 7000 }
def localOwned : PromptRecord := { record .owned with localUntil := some 7000 }

/-- Numbered records of a full table. -/
def fullTable (b : BoardState) : List PromptRecord :=
  (List.range 24).map fun i => { record b with key := { kiosk := 12, tag := i + 1 } }

/-- The answer by a new key, by a known one with and without a board state, and at a full table. -/
theorem witness_AssignIsCheckedAndAnswered :
    assignOf 10 (bs assignBytes) = some assign907 ∧ assignOf 8 (bs assignBytes) = none
      ∧ headIs (holding .assign assignBytes (askedBoth [])) (arrived .assign assignBytes) []
      ∧ assign907.key.kiosk = asked.start.address
      ∧ (∃ r ∈ asked.requests.entries, r.sent = true ∧ r.tag = assign907.key.tag)
      ∧ (boardStation (askedBoth []).cfg = true ∧ (askedBoth []).power.mode = .active
        ∧ ∀ r ∈ (askedBoth []).releases, r.key ≠ assign907.key)
      ∧ boardStation asked.cfg = false ∧ (askedBoth []).prompts.length < 24
      ∧ (inMode .draining (askedBoth [])).power.mode = .draining
      ∧ findPrompt (askedBoth (fullTable .watched)).prompts key907 = none
      ∧ 24 ≤ (askedBoth (fullTable .watched)).prompts.length
      ∧ findPrompt (askedBoth [localOnly]).prompts key907 = some localOnly ∧ localOnly.board = .none
      ∧ findPrompt (askedBoth [localOwned]).prompts key907 = some localOwned
      ∧ localOwned.car = assign907.car ∧ localOwned.deck = assign907.deck
      ∧ ({ localOwned with deck := none }).deck ≠ assign907.deck := by
  unfold headIs
  decide +kernel

/-- An ASSIGN that is no answer, on a record with a local part, its key in the release buffer, and at a
kiosk alone. -/
theorem witness_AssignIsNoAnswer :
    headIs (holding .assign assignBytes releasing) (arrived .assign assignBytes) []
      ∧ ¬assign907.key.kiosk = board.start.address ∧ releasing.power.mode = .active
      ∧ (∃ r ∈ releasing.releases, r.key = assign907.key)
      ∧ board.recallLatch.latched = false ∧ kioskJob lobby = true ∧ boardStation kiosk.cfg = false
      ∧ kioskJob { lobby with regions := lobby.regions.take 1 } = false
      ∧ (record .owned).localUntil = none ∧ localOwned.localUntil.isSome = true
      ∧ localOnly.localUntil.isSome = true := by
  unfold headIs
  decide +kernel

theorem witness_AssignMakesOrRenewsTheRecord :
    assignOf board.cfg.floors.length (bs assignBytes) = some assign907 ∧ isAnswer assign907 board = false
      ∧ boardStation board.cfg = true ∧ inReleases key907 releasing.releases = true
      ∧ inReleases key907 board.releases = false ∧ findPrompt board.prompts key907 = none
      ∧ findPrompt (withRecord (record .owned)).prompts key907 = some (record .owned)
      ∧ (record .owned).localUntil = none ∧ (record .owned).car = assign907.car
      ∧ (record .owned).deck = assign907.deck
      ∧ kioskJob lobby = true ∧ localOnly.board = .none ∧ localOnly.car = assign907.car
      ∧ ({ localOnly with deck := none }).deck ≠ assign907.deck ∧ localOwned.localUntil.isSome = true
      ∧ localOwned.board ≠ .none := by decide +kernel

theorem witness_RecordsJoinBoardAndRetire :
    ((fullTable .watched).map PromptRecord.key).Nodup ∧ 24 ≤ (fullTable .watched).length
      ∧ ((fullTable .watched).find? fun q => q.board == .watched && !q.takeQueued).isSome = true
      ∧ (fullTable .pending).any (fun q => q.board == .watched && !q.takeQueued) = false
      ∧ ((fullTable .pending).find? fun q =>
          q.board == .pending && q.holdoff.isNone && !q.takeQueued).isSome = true
      ∧ (fullTable .owned).any (fun q => q.board == .watched && !q.takeQueued) = false
      ∧ (fullTable .owned).any (fun q =>
          q.board == .pending && q.holdoff.isNone && !q.takeQueued) = false
      ∧ (record .owned).phase = .waiting := by decide +kernel

/-- The car stands at the home floor with its door OPEN, and then runs. -/
def atLobby (m : Motion) : State :=
  { board with
    cars :=
      [{ liveCar with
         report := some { report with height := 5000, motion := m }, estimate := some 5000
         floor := some 1 }] }

theorem witness_phase_terms :
    boardsNow (atLobby .parked) carD (some .lower) ∧ runsNow (atLobby .runUp) carD :=
  ⟨⟨_, _, rfl, rfl, rfl, rfl, rfl, .inl rfl, .inr rfl⟩, ⟨_, _, rfl, rfl, rfl, .inl rfl⟩⟩

theorem witness_PeerShowsMoveTheRecord :
    byteAt (bs [1, 1, 12, 3, 139]) 1 ≠ 2 ∧ byteAt (bs [1, 2, 12, 3, 139]) 1 = 2
      ∧ showOf (bs [1, 1, 12, 3, 139]) = some (.take, key907)
      ∧ showOf (bs [1, 2, 12, 3, 139]) = some (.release, key907)
      ∧ showOf (bs [1, 1, 127, 3, 139]) = none ∧ showOf (bs [1, 2, 12, 0, 0]) = none
      ∧ boardStation board.cfg = true ∧ boardStation kiosk.cfg = false
      ∧ (arrived .shows []).source < board.start.address
      ∧ board.start.address < ({ arrived .shows [] with source := 24 }).source
      ∧ (record .owned).reassertDone = false ∧ ({ record .owned with reassertDone := true }).reassertDone = true
      ∧ (inMode .dormant board).power.mode = .dormant ∧ board.line.watch = .busy
      ∧ (∃ r ∈ releasing.releases, r.key = key907) ∧ (∀ r ∈ board.releases, r.key ≠ key907)
      ∧ (∀ i ∈ taking.showFifo, isTakeOf key907 i = true → i.onLine = false)
      ∧ (record .watched).claimant = some (arrived .shows []).source := by decide +kernel

theorem witness_PromptRecordDeadlinesPass :
    (([record .none] : List PromptRecord).map PromptRecord.key).Nodup
      ∧ ({ record .none with localUntil := some 1000 }).localUntil = some board.now
      ∧ ({ record .owned with validUntil := 1000 }).validUntil = board.now
      ∧ ({ record .pending with holdoff := some 1000 }).holdoff = some board.now
      ∧ ({ key := key907, deadline := 1000 } : ReleaseEntry)
          ∈ ([{ key := key907, deadline := 1000 }] : List ReleaseEntry)
      ∧ board.line.watch = .busy ∧ ¬(board.power.mode = .draining ∧ board.line.tx ≠ .sending) := by
  decide +kernel

/-- One row free and none free of the four. -/
theorem witness_HoldoffsStartForTheOldestPending :
    boardStation board.cfg = true ∧ board.power.mode = .active ∧ board.rx.congested = false
      ∧ holdoffEligible (record .pending) = true
      ∧ reservedRows { board with prompts := (fullTable .owned).take 3 ++ [record .pending] } < lobby.rowCount
      ∧ lobby.rowCount ≤ reservedRows { board with prompts := (fullTable .owned).take 4 }
      ∧ ((fullTable .owned).take 3).any holdoffEligible = false
      ∧ (∃ e ∈ lobby.affinity, e.1 = 12 ∧ e.2 ≤ 6) ∧ (∀ e ∈ lobby.affinity, e.1 ≠ 9) := by decide +kernel

/-- A part of the assembly in progress, one that completes it, another text, and one whose index is its
count. -/
theorem witness_TextPartsAssemble :
    byteAt (bs partBytes) 0 = 3
      ∧ textPartOf (bs partBytes) = some { slot := .urgent, id := 7, index := 1, count := 2, chars := [82, 86] }
      ∧ textPartOf (bs [3, 3, 0, 9, 2, 7, 0, 1]) = none
      ∧ (none : Option (List Nat)) ∉ [some [79, 70], none].set 1 (some [82, 86])
      ∧ (none : Option (List Nat)) ∈ [some [79, 70], none].set 0 (some [82, 86])
      ∧ ((textPartOf (bs [3, 3, 0, 9, 0, 8, 3, 3])).map fun q => decide (q.count ≤ q.index)) = some true
      ∧ ((textPartOf (bs [3, 3, 0, 9, 1, 8, 0, 1])).map fun q => decide (q.count = 1)) = some true
      ∧ (halfText.assembly.map fun a => (a.id, a.parts.length)) = some (7, 2)
      ∧ asleep (inMode .draining board).power.mode = true ∧ asleep board.power.mode = false
      ∧ drainsIdle (drainedAt 1000) ∧ ¬drainsIdle (drainedAt 999) := by
  decide +kernel

theorem witness_TextsAreClearedAndExpire :
    byteAt (bs [4, 3, 0, 9, 0, 7]) 0 = 4 ∧ textClearOf (bs [4, 3, 0, 9, 0, 7]) = some (.urgent, 7)
      ∧ textClearOf (bs [4, 3, 0, 9, 2, 7]) = none
      ∧ (halfText.assembly.map Assembly.deadline) = some 2000
      ∧ (shownText.shown.map ShownText.life) = some board.now := by decide +kernel

theorem witness_RecallNoticesDriveTheLatch :
    byteAt (bs [1, 3, 0, 9]) 0 = 1 ∧ byteAt (bs [2, 3, 0, 9]) 0 = 2
      ∧ noticeKindOf (byteAt (bs [7, 3, 0, 9]) 0) = none
      ∧ board.recallLatch.position ≠ .bypass ∧ board.recallLatch.latched = false
      ∧ (recalled board).recallLatch.latched = true ∧ (recalled board).recallLatch.position = .off := by
  decide +kernel

theorem witness_RecallKeyDrivesTheLatch :
    contactPosition { board.recallLatch with onContact := true, bypassContact := true } = .on
      ∧ contactPosition { board.recallLatch with bypassContact := true } = .bypass
      ∧ contactPosition board.recallLatch = .off ∧ board.recallLatch.reading ≠ .on
      ∧ ({ board.recallLatch with reading := .on }).reading = .on
      ∧ board.recallLatch.position ≠ .on ∧ board.cfg.keyFitted = true ∧ serving board = true
      ∧ board.recallLatch.latched = false ∧ (recalled board).recallLatch.latched = true
      ∧ serving (loading 23) = false ∧ (loading 23).start.stage ≠ .heldInReset
      ∧ (after (.resetAsserted .pin) board).start.stage = .heldInReset := by decide +kernel

theorem witness_NightAndDayFollowTheTableOfR171 :
    byteAt (bs [5, 3, 0, 9]) 0 = 5 ∧ byteAt (bs [6, 3, 0, 9]) 0 = 6 ∧ board.power.mode = .active
      ∧ board.recallLatch.latched = false ∧ (recalled board).power.mode = .active
      ∧ (recalled board).recallLatch.latched = true ∧ (inMode .dim board).power.mode = .dim
      ∧ (inMode .dormant board).power.mode = .dormant := by decide +kernel

theorem witness_WakesFollowTheTableOfR172 :
    byteAt (bs [23, 1, 0, 0, 0]) 1 = 1 ∧ byteAt (bs [23, 2, 0, 0, 0]) 1 = 2
      ∧ wakeActionOf (byteAt (bs [23, 0, 0, 0, 0]) 1) = none
      ∧ wakeActionOf (byteAt (bs [23, 3, 0, 0, 0]) 1) = none
      ∧ (inMode .dim board).power.mode = .dim ∧ board.power.mode ≠ .dim
      ∧ (inMode .draining board).power.mode = .draining := by decide +kernel

theorem witness_DrainAndDormantEntries :
    (inMode .dim board).power.idleDeadline = some board.now
      ∧ (inMode .draining board).power.drainDeadline = some board.now
      ∧ rowsOf (withRecord (record .owned)).prompts ≠ [] ∧ rowsOf board.prompts = []
      ∧ (inMode .dim board).power.mode = .dim ∧ (inMode .draining board).power.mode = .draining
      ∧ board.line.tx ≠ .sending ∧ board.line.watch = .busy ∧ board.releases = []
      ∧ board.power.mode ≠ .dim := by decide +kernel

theorem witness_ScrollAndBlinkFollowTheTimebase :
    scrolling.power.mode = .active
      ∧ ((scrolling.display.regions[0]?).map fun v =>
          (decide (v.text = codesOf (compose scrolling 0 v.region)), decide (v.region.width < v.text.length),
            v.deadline)) = some (true, true, some scrolling.now)
      ∧ 1 < 6 - 4 ∧ 6 - 4 ≤ 2 ∧ (inMode .dormant scrolling).power.mode = .dormant ∧ drainHolds scrolling := by
  unfold drainHolds
  decide +kernel

/-- The lobby car with a stop list, at floor 2 with its door OPEN. -/
def stopping (d : Option Dir) : State :=
  { board with cars := [{ liveCar with stops := [0, 2, 8], report := some { report with committed := d } }] }

theorem witness_RegionsShowTheHighestLayer :
    (recalled board).recallLatch.latched = true ∧ board.recallLatch.latched = false
      ∧ scrolling.notices.urgent.shown.isSome = true ∧ board.notices.urgent.shown.isSome = false
      ∧ findCar ({ board with cars := [liveCar] }).cars carD = some liveCar ∧ liveCar.report = some report
      ∧ liveCar.shown[2]? = some (some 2) ∧ liveCar.shown[0]? = some none ∧ liveCar.floor = some 2
      ∧ (findCar board.cars carD).map CarRecord.report = some none
      ∧ ((stopping none).cars.map fun c => (c.floor, c.stops)) = [(some 2, [0, 2, 8])]
      ∧ (rowsOf (withRecord (record .owned)).prompts)[0]? = some (record .owned)
      ∧ (rowsOf (withRecord (record .owned)).prompts).length ≤ 1 ∧ 1 < lobby.rowCount
      ∧ (entering [49] board).entry.entering = true ∧ board.entry.entering = false
      ∧ board.entry.prompt = none := by decide +kernel

theorem witness_OutputsFollowTheState :
    serving board = true ∧ serving State.reset = false ∧ running State.reset = false
      ∧ (board.lanterns.map fun l => l.entry.output).Nodup ∧ lantern ∈ board.lanterns
      ∧ 1 ∉ board.lanterns.map (fun l => l.entry.output)
      ∧ (sending .stat board).line.tx = .sending ∧ (sending .stat board).line.attempt.isSome = true
      ∧ running board = true ∧ rejected board = false
      ∧ rejected { board with start := { board.start with config := some .rejected } } = true
      ∧ (scrolling.display.regions.map fun v =>
          (decide (v.region.width < (compose scrolling 0 v.region).length), v.region.line, v.region.first))
          = [(true, 3, 0)]
      ∧ (board.display.regions.map fun v => decide ((compose board 2 v.region).length ≤ v.region.width))[2]?
          = some true
      ∧ (rowsOf (withRecord { record .owned with phase := .boarding }).prompts).map PromptRecord.phase = [.boarding]
      ∧ ({ localOnly with phase := .boarding }).localUntil.isSome = true
      ∧ drawable 7 = true ∧ drawable 8 = false ∧ drawable 126 = true ∧ drawable 127 = false := by
  decide +kernel

end Sys2Proof.Tests
end

section
/-! PROOF. The family of car records (chapters 3 to 5): a CAR and a STOPS taken, and the deadlines of a record.
First one rule per part of the model these commands go through, then the statements. -/

namespace Sys2Proof.CarRecords

open Sys2Proof.Machine Sys2Proof.Safety Sys2Proof.Laws

/-! ### What the standing conditions leave of a command's effect -/

/-- The beginning of an attempt writes the captured and recurred marks at most (R4, R191). -/
theorem flags_eq_of_offerFollows {s t : State} (h : offerFollows s t) : t.status.flags = s.status.flags := by
  rcases h with ⟨-, -, -, hst, -⟩ | ⟨-, _, _, -, -, -, ⟨⟨item, _⟩, -, -, -, written⟩ | ⟨-, -, -, -, hst⟩⟩
  · rw [hst]
  · cases item <;> simp only at written <;> rw [written.2]
  · rw [hst]

/-- The standing conditions set and clear no flag. -/
theorem flags_eq_of_settles {e t : State} (h : settles e t) : t.status.flags = e.status.flags := by
  obtain ⟨-, -, -, offered, -⟩ := h
  rw [flags_eq_of_offerFollows offered, drainTest_status]

/-- While no drain ends, the records stand as the command left them. -/
theorem settle_cars {e : State} (h : drainHolds e) : (settle e).cars = e.cars := by
  rw [(settle_settles e).1, drainTest_holds h]

/-- While no drain ends, the lanterns stand as the command left them. -/
theorem settle_lanterns {e : State} (h : drainHolds e) : (settle e).lanterns = e.lanterns := by
  rw [(settle_settles e).1, drainTest_holds h]

/-! ### The record of a car -/

/-- A change that keeps keys changes the record found and no other. -/
theorem findCar_map {f : CarRecord → CarRecord} (hf : ∀ c, (f c).key = c.key) (cars : List CarRecord) (k : CarKey) :
    findCar (cars.map f) k = (findCar cars k).map f := by
  unfold findCar
  rw [List.find?_map]
  congr 2
  funext c
  simp [hf]

/-- A change of one car's record that keeps its key. -/
theorem findCar_updateCar {f : CarRecord → CarRecord} (hf : ∀ c, (f c).key = c.key) {cars : List CarRecord}
    {k : CarKey} {c : CarRecord} (h : findCar cars k = some c) : findCar (updateCar k f cars) k = some (f c) := by
  have hk : c.key = k := by simpa using List.find?_some h
  unfold updateCar
  rw [findCar_map (fun x => by split <;> simp [hf]), h, Option.map_some, if_pos hk]

/-- Without two records of one car, a record of the table is the one its key finds. -/
theorem findCar_of_mem {cars : List CarRecord} (hn : (cars.map CarRecord.key).Nodup) {c : CarRecord} (hc : c ∈ cars) :
    findCar cars c.key = some c := by
  unfold findCar
  rw [List.find?_eq_some_iff_append]
  obtain ⟨front, back, rfl⟩ := List.append_of_mem hc
  refine ⟨by simp, front, back, rfl, fun x hx => ?_⟩
  rw [List.map_append, List.nodup_append] at hn
  simpa using hn.2.2 x.key (List.mem_map_of_mem hx) c.key (by simp)

/-- Without two records of one car, every record with the key of one is that one. -/
theorem eq_of_mem_of_key {cars : List CarRecord} (hn : (cars.map CarRecord.key).Nodup) {c x : CarRecord}
    (hc : c ∈ cars) (hx : x ∈ cars) (hk : x.key = c.key) : x = c :=
  Option.some.inj ((findCar_of_mem hn hx).symm.trans (hk ▸ findCar_of_mem hn hc))

/-- Writing a record that keeps its key and its pin leaves the pinned cars. -/
theorem any_pinned_updateCar {f : CarRecord → CarRecord} (hf : ∀ c, (f c).key = c.key ∧ (f c).pinned = c.pinned)
    (cars : List CarRecord) (k j : CarKey) :
    ((updateCar k f cars).any fun c => c.key == j && c.pinned) = cars.any fun c => c.key == j && c.pinned := by
  rw [updateCar, List.any_map]
  congr 1
  funext c
  simp only [Function.comp]
  split <;> simp [hf]

/-! ### A report entered in a record -/

@[simp] theorem evaluate_key (cfg : Settings) (now : Nat) (c : CarRecord) : (evaluate cfg now c).key = c.key := by
  unfold evaluate; split <;> rfl

@[simp] theorem evaluate_pinned (cfg : Settings) (now : Nat) (c : CarRecord) :
    (evaluate cfg now c).pinned = c.pinned := by
  unfold evaluate; split <;> rfl

@[simp] theorem evaluate_freshness (cfg : Settings) (now : Nat) (c : CarRecord) :
    (evaluate cfg now c).freshness = c.freshness := by
  unfold evaluate; split <;> rfl

@[simp] theorem withReport_key (cfg : Settings) (now : Nat) (r : Report) (c : CarRecord) :
    (withReport cfg now r c).key = c.key := evaluate_key ..

@[simp] theorem withReport_pinned (cfg : Settings) (now : Nat) (r : Report) (c : CarRecord) :
    (withReport cfg now r c).pinned = c.pinned := evaluate_pinned ..

@[simp] theorem withReport_freshness (cfg : Settings) (now : Nat) (r : Report) (c : CarRecord) :
    (withReport cfg now r c).freshness = .live := evaluate_freshness ..

/-- An evaluation reads neither freshness nor deadlines, so they may be written after it (R35, R49). -/
theorem withReport_eq (cfg : Settings) (now : Nat) (r : Report) (c : CarRecord) :
    withReport cfg now r c =
      { evaluate cfg now { c with report := some r } with
        freshness := .live
        staleAt := some (r.stamp + cfg.staleTimeout)
        lostAt := some (r.stamp + cfg.lostTimeout) } := rfl

/-! ### The lantern tests of one car (R72) -/

/-- What a test makes of a lantern does not hang on the chime. -/
theorem testLantern_fst (cfg : Settings) (mode : PowerMode) (now : Nat) (c : CarRecord) (q q' : Chime)
    (l : Lantern) : (testLantern cfg mode now c q l).1 = (testLantern cfg mode now c q' l).1 := by
  unfold testLantern
  split
  · split <;> rfl
  · split <;> rfl

/-- The state with the lanterns of one car tested against a record of it, one by one in the entries' order, each
on the chime that those before it leave (assumption 6). -/
def carTested (k : CarKey) (c : CarRecord) (s : State) : State :=
  { s with
    lanterns := s.lanterns.map fun l =>
      if l.entry.car = k then (testLantern s.cfg s.power.mode s.now c s.chime l).1 else l
    chime := s.lanterns.foldl
      (fun q l => if l.entry.car = k then (testLantern s.cfg s.power.mode s.now c q l).2 else q) s.chime }

/-- The tests of one car's lanterns in closed form, for a car with a record. -/
theorem testLanternList_of_findCar {cars : List CarRecord} {k : CarKey} {c : CarRecord}
    (h : findCar cars k = some c) (cfg : Settings) (mode : PowerMode) (now : Nat) (q₀ : Chime) :
    ∀ (ls : List Lantern) (q : Chime),
      testLanternList cfg mode now cars (fun j => j == k) ls q =
        (ls.map fun l => if l.entry.car = k then (testLantern cfg mode now c q₀ l).1 else l,
          ls.foldl (fun q l => if l.entry.car = k then (testLantern cfg mode now c q l).2 else q) q)
  | [], _ => rfl
  | l :: ls, q => by
    simp only [testLanternList, testLanternList_of_findCar h cfg mode now q₀ ls, List.map_cons, List.foldl_cons]
    by_cases hl : l.entry.car = k
    · simp [hl, h, testLantern_fst cfg mode now c q q₀ l]
    · simp [hl]

/-- The tests of the lanterns of a car with a record. -/
theorem testLanterns_of_findCar {s : State} {k : CarKey} {c : CarRecord} (h : findCar s.cars k = some c) :
    testLanterns (fun j => j == k) s = carTested k c s := by
  simp only [testLanterns, carTested, testLanternList_of_findCar h s.cfg s.power.mode s.now s.chime]

/-- The lanterns of a car without a record stay as they are. -/
theorem testLanterns_of_findCar_none {s : State} {k : CarKey} (h : findCar s.cars k = none) :
    testLanterns (fun j => j == k) s = s := by
  have left : ∀ (ls : List Lantern) (q : Chime),
      testLanternList s.cfg s.power.mode s.now s.cars (fun j => j == k) ls q = (ls, q) := by
    intro ls
    induction ls with
    | nil => exact fun _ => rfl
    | cons l ls ih =>
      intro q
      by_cases hl : l.entry.car = k
      · simp [testLanternList, hl, h, ih]
      · simp [testLanternList, hl, ih]
  simp only [testLanterns, left]

/-- A test against a record that is not LIVE lights nothing, and darkens what is LIT (R74, R77, R82). -/
theorem testLantern_of_not_live {c : CarRecord} (h : c.freshness ≠ .live) (cfg : Settings) (mode : PowerMode)
    (now : Nat) (q : Chime) (l : Lantern) :
    testLantern cfg mode now c q l =
      if l.lit = true then ({ l with lit := false, doorSeen := false }, dropChime l.entry.output q) else (l, q) := by
  have dark : darkens cfg l c = true := by
    unfold darkens
    split <;> simp [h]
  have unlit : lights cfg mode l.entry c = false := by
    unfold lights
    split <;> simp [h]
  simp [testLantern, dark, unlit]

/-- The state with every LIT lantern of a car DARK, and their chime entries that wait gone (R77, R82). -/
def carDarkened (k : CarKey) (s : State) : State :=
  { s with
    lanterns := s.lanterns.map fun l =>
      if l.entry.car = k ∧ l.lit = true then { l with lit := false, doorSeen := false } else l
    chime :=
      { s.chime with
        queue := s.chime.queue.filter fun e =>
          !(s.lanterns.any fun l => l.entry.car == k && l.lit && l.entry.output == e.output) } }

/-- Chime entries dropped one lantern after the other. -/
theorem foldl_dropChime (gone : Lantern → Bool) (ls : List Lantern) (q : Chime) :
    ls.foldl (fun q l => if gone l = true then dropChime l.entry.output q else q) q =
      { q with queue := q.queue.filter fun e => !(ls.any fun l => gone l && l.entry.output == e.output) } := by
  induction ls generalizing q with
  | nil =>
    show q = { q with queue := q.queue.filter fun _ => true }
    rw [List.filter_eq_self.2 fun _ _ => rfl]
  | cons l ls ih =>
    rw [List.foldl_cons, ih]
    cases hl : gone l
    · simp [hl]
    · simp only [hl, if_true, dropChime, List.filter_filter, List.any_cons, Bool.true_and, Bool.not_or]
      congr 2
      funext e
      rw [Bool.and_comm, bne, BEq.comm]

/-- The tests of a car whose record is not LIVE. -/
theorem carTested_of_not_live {c : CarRecord} (h : c.freshness ≠ .live) (k : CarKey) (s : State) :
    carTested k c s = carDarkened k s := by
  have chimed : ∀ (q : Chime) (l : Lantern),
      (if l.entry.car = k then (testLantern s.cfg s.power.mode s.now c q l).2 else q)
        = if (l.entry.car == k && l.lit) = true then dropChime l.entry.output q else q := by
    intro q l
    rw [testLantern_of_not_live h]
    cases hl : l.lit <;> simp
  have darkened : ∀ l : Lantern,
      (if l.entry.car = k then (testLantern s.cfg s.power.mode s.now c s.chime l).1 else l)
        = if l.entry.car = k ∧ l.lit = true then { l with lit := false, doorSeen := false } else l := by
    intro l
    rw [testLantern_of_not_live h]
    cases hl : l.lit <;> simp
  simp only [carTested, carDarkened, chimed, darkened, foldl_dropChime fun l => l.entry.car == k && l.lit]

/-- No lantern of a darkened car is LIT. -/
theorem lit_of_mem_carDarkened {k : CarKey} {s : State} {l : Lantern} (h : l ∈ (carDarkened k s).lanterns)
    (hk : l.entry.car = k) : l.lit = false := by
  obtain ⟨l₀, -, rfl⟩ := List.mem_map.1 h
  by_cases hd : l₀.entry.car = k ∧ l₀.lit = true
  · rw [if_pos hd]
  · rw [if_neg hd] at hk ⊢
    simpa [hk] using hd

/-! ### STOPS (R44 to R46) -/

/-- A STOPS at the head of the queue is taken. -/
theorem exec_stops {s : State} {e : RxEntry} {rest : List RxEntry} (h : headIs s e rest) (hk : e.kind = .stops) :
    exec .stops s = .next (settle (stopsTaken e (headTaken s rest))) := by
  rw [← takeHead_of_headIs (fits := fun e => e.kind == .stops) h (by simp [hk])]
  rfl

/-- What a STOPS writes, and what it leaves. -/
theorem stopsTaken_eq (e : RxEntry) (s : State) :
    stopsTaken e s =
      { s with
        cars := s.cars.map fun c =>
          if c.key = carKeyOf (byteAt e.payload 0) ∧ (c.freshness = .live ∨ c.freshness = .stale)
          then { c with stops := stopListOf s.cfg.floors.length e.payload } else c } := by
  unfold stopsTaken updateCar
  congr 2
  funext c
  by_cases hk : c.key = carKeyOf (byteAt e.payload 0)
  · simp only [hk, takesStops, Bool.or_eq_true, beq_iff_eq, true_and, if_true, floorCount]
  · simp only [hk, false_and, if_false]

/-- A list in strict order is ascending in the sense of the safe states. -/
theorem ascending_of_pairwise : ∀ {l : List Nat}, l.Pairwise (· < ·) → ascending l
  | [], _ => trivial
  | [_], _ => trivial
  | a :: b :: l, h => ⟨List.rel_of_pairwise_cons h (by simp), ascending_of_pairwise h.of_cons⟩

/-- The indices sent that are floors of the map, in order: the stop list before it is cut to 16 (R44). -/
def sentFloors (n : Nat) (p : List Byte) : List Nat :=
  (List.range n).filter fun f => ((p.drop 1).map BitVec.toNat).contains f

theorem stopListOf_eq_take (n : Nat) (p : List Byte) : stopListOf n p = (sentFloors n p).take 16 := rfl

theorem sentFloors_pairwise (n : Nat) (p : List Byte) : (sentFloors n p).Pairwise (· < ·) :=
  List.pairwise_lt_range.filter _

theorem mem_sentFloors {n : Nat} {p : List Byte} {f : Nat} :
    f ∈ sentFloors n p ↔ f ∈ (p.drop 1).map BitVec.toNat ∧ f < n := by
  simp only [sentFloors, List.mem_filter, List.mem_range, List.contains_iff_mem, and_comm]

/-- What the first `m` of a list in strict order leave out: they are `m`, and what is left out lies above them. -/
theorem length_and_lt_of_not_mem_take {l : List Nat} (h : l.Pairwise (· < ·)) {m f : Nat} (hf : f ∈ l)
    (hn : f ∉ l.take m) : (l.take m).length = m ∧ ∀ g ∈ l.take m, g < f := by
  rw [← List.take_append_drop m l] at h hf
  have hd : f ∈ l.drop m := (List.mem_append.1 hf).resolve_left hn
  have hlen : m ≤ l.length := by
    have nonempty := List.length_pos_of_mem hd
    rw [List.length_drop] at nonempty
    omega
  exact ⟨List.length_take_of_le hlen, fun g hg => (List.pairwise_append.1 h).2.2 g hg f hd⟩

/-- The normal form of R44. -/
theorem stopListOf_normal (n : Nat) (p : List Byte) :
    ascending (stopListOf n p) ∧ (stopListOf n p).length ≤ 16
      ∧ (∀ f ∈ stopListOf n p, f ∈ (p.drop 1).map BitVec.toNat ∧ f < n)
      ∧ ∀ f ∈ (p.drop 1).map BitVec.toNat, f < n → f ∉ stopListOf n p →
          (stopListOf n p).length = 16 ∧ ∀ g ∈ stopListOf n p, g < f := by
  rw [stopListOf_eq_take]
  have ordered := sentFloors_pairwise n p
  refine ⟨ascending_of_pairwise (ordered.sublist (List.take_sublist ..)), List.length_take_le ..,
    fun f hf => mem_sentFloors.1 (List.mem_of_mem_take hf), fun f hf hlt hn => ?_⟩
  exact length_and_lt_of_not_mem_take ordered (mem_sentFloors.2 ⟨hf, hlt⟩) hn

/-- Settles O32: the take in closed form, and what follows every command. -/
theorem stopsReplaceTheStopList : Obligations.StopsReplaceTheStopList := by
  intro s e rest h hk
  refine ⟨_, exec_stops h hk, ?_⟩
  rw [stopsTaken_eq]
  exact settle_settles _

/-- Settles O31: the list kept is the first 16 of the floors sent, in order, and the take writes the records alone. -/
theorem stopListsAreNormalised : Obligations.StopListsAreNormalised := by
  refine ⟨stopListOf_normal, fun s e rest c h hk hd hc hkey hfresh => ?_⟩
  refine ⟨_, exec_stops h hk, (flags_eq_of_settles (settle_settles _)).trans rfl, ?_⟩
  rw [settle_cars (by exact hd), stopsTaken_eq]
  exact List.mem_map.2 ⟨c, hc, if_pos ⟨hkey, hfresh⟩⟩

/-! ### The deadlines of a record (R41, R42) -/

/-- A record becomes STALE: its lanterns go DARK (R41, R72, R77). -/
theorem goStale_eq {s : State} {k : CarKey} {c : CarRecord} (h : findCar s.cars k = some c)
    (hl : ∀ x ∈ s.cars, x.key = k → x.freshness = .live) :
    goStale k s =
      carTested k { c with freshness := .stale }
        { s with cars := s.cars.map fun x => if x.key = k then { x with freshness := .stale } else x } := by
  have stale : updateCar k staleRecord s.cars
      = s.cars.map fun x => if x.key = k then { x with freshness := .stale } else x :=
    List.map_congr_left fun x hx => by
      split
      · rename_i hk
        exact if_pos (hl x hx hk)
      · rfl
  unfold goStale
  rw [stale]
  exact testLanterns_of_findCar (findCar_updateCar (f := fun x => { x with freshness := .stale }) (fun _ => rfl) h)

/-- A stale deadline that a LIVE record has reached. -/
theorem exec_staleDeadline {s : State} {c : CarRecord} {d : Nat} (hn : (s.cars.map CarRecord.key).Nodup)
    (hc : c ∈ s.cars) (hd : d ≤ s.now) (hf : c.freshness = .live) (ha : c.staleAt = some d) :
    exec (.staleDeadline c.key) s =
      .next (settle (carDarkened c.key
        { s with cars := s.cars.map fun x => if x.key = c.key then { x with freshness := .stale } else x })) := by
  have due : s.cars.any (staleDue s.now c.key) = true :=
    List.any_eq_true.2 ⟨c, hc, by simp [staleDue, passed, hf, ha, hd]⟩
  have live : ∀ x ∈ s.cars, x.key = c.key → x.freshness = .live := fun x hx hk =>
    eq_of_mem_of_key hn hc hx hk ▸ hf
  show execStaleDeadline c.key s = _
  rw [execStaleDeadline, if_pos due, goStale_eq (findCar_of_mem hn hc) live, carTested_of_not_live (by simp)]

/-- A `filterMap` hangs on what its function gives the members. -/
theorem filterMap_eq_of_forall_mem {f g : CarRecord → Option CarRecord} :
    ∀ {cars : List CarRecord}, (∀ x ∈ cars, f x = g x) → cars.filterMap f = cars.filterMap g
  | [], _ => rfl
  | x :: cars, h => by
    rw [List.filterMap_cons, List.filterMap_cons, h x List.mem_cons_self,
      filterMap_eq_of_forall_mem fun y hy => h y (List.mem_cons_of_mem x hy)]

/-- Only the record of the key is at its lost deadline: it leaves, or stays LOST if it is pinned (R42). -/
theorem filterMap_atLostDeadline {cars : List CarRecord} {c : CarRecord} {now : Nat}
    (hn : (cars.map CarRecord.key).Nodup) (hc : c ∈ cars) (hdue : lostDue now c.key c = true) :
    cars.filterMap (atLostDeadline now c.key) =
      if c.pinned = true then updateCar c.key loseRecord cars else cars.filter fun x => x.key != c.key := by
  have other : ∀ {x : CarRecord}, x.key ≠ c.key → atLostDeadline now c.key x = some x := by
    intro x hx
    simp [atLostDeadline, lostDue, hx]
  split
  · rename_i hp
    rw [updateCar, ← List.filterMap_eq_map]
    refine filterMap_eq_of_forall_mem fun x hx => ?_
    by_cases hk : x.key = c.key
    · obtain rfl := eq_of_mem_of_key hn hc hx hk
      simp [atLostDeadline, hdue, hp]
    · simp [other hk, hk]
  · rename_i hp
    rw [← List.filterMap_eq_filter]
    refine filterMap_eq_of_forall_mem fun x hx => ?_
    by_cases hk : x.key = c.key
    · obtain rfl := eq_of_mem_of_key hn hc hx hk
      simp [atLostDeadline, hdue, hp, Option.guard]
    · simp [other hk, hk, Option.guard]

/-- A lost deadline that a LIVE or STALE record has reached. -/
theorem exec_lostDeadline {s : State} {c : CarRecord} {d : Nat} (hn : (s.cars.map CarRecord.key).Nodup)
    (hc : c ∈ s.cars) (hd : d ≤ s.now) (hf : c.freshness = .live ∨ c.freshness = .stale) (ha : c.lostAt = some d) :
    exec (.lostDeadline c.key) s =
      .next (settle
        (if c.pinned = true then carDarkened c.key { s with cars := updateCar c.key loseRecord s.cars }
        else { s with cars := s.cars.filter fun x => x.key != c.key })) := by
  have hdue : lostDue s.now c.key c = true := by
    rcases hf with hf | hf <;> simp [lostDue, passed, hf, ha, hd]
  show execLostDeadline c.key s = _
  rw [execLostDeadline, if_pos (List.any_eq_true.2 ⟨c, hc, hdue⟩), filterMap_atLostDeadline hn hc hdue]
  split
  · rw [testLanterns_of_findCar (findCar_updateCar (f := loseRecord) (fun _ => rfl) (findCar_of_mem hn hc)),
      carTested_of_not_live (by simp [loseRecord])]
  · rw [testLanterns_of_findCar_none]
    simp [findCar]

/-- Settles O34: a record that is not LIVE any more darkens its car's lanterns, and one that is gone leaves them. -/
theorem carDeadlinesHoldOrGiveUpTheRecord : Obligations.CarDeadlinesHoldOrGiveUpTheRecord := by
  rintro s k c d hn hc rfl hd
  refine ⟨fun hf ha => ⟨_, exec_staleDeadline hn hc hd hf ha, settle_settles _, fun hdrain l hl hk => ?_⟩,
    fun hf ha => ⟨_, exec_lostDeadline hn hc hd hf ha, fun hp => ?_, fun hp => ?_⟩⟩
  · rw [settle_lanterns (by exact hdrain)] at hl
    exact lit_of_mem_carDarkened hl hk
  · rw [if_neg (by simp [hp])]
    exact settle_settles _
  · rw [if_pos hp]
    exact settle_settles _

/-! ### The checks of a CAR (R34, R36, R37) -/

/-- The code of a motion (12.1). -/
def motionCode : Motion → Nat
  | .parked => 0
  | .runUp => 1
  | .runDown => 2
  | .levelling => 3

/-- The code of a committed direction, or of none (12.1). -/
def committedCode : Option Dir → Nat
  | none => 0
  | some .up => 1
  | some .down => 2

/-- The code of a door state (12.1). -/
def doorCode : Door → Nat
  | .closed => 0
  | .opening => 1
  | .opened => 2
  | .closing => 3

/-- The code of a service mode (12.1). -/
def serviceCode : Service → Nat
  | .normal => 0
  | .independent => 1
  | .fireRecall => 2
  | .fireService => 3
  | .inspection => 4
  | .outOfService => 5

theorem motionOf_eq_none_iff (n : Nat) : motionOf n = none ↔ 3 < n := by
  rcases n with _ | _ | _ | _ | n <;> simp [motionOf]

theorem committedOf_eq_none_iff (n : Nat) : committedOf n = none ↔ 2 < n := by
  rcases n with _ | _ | _ | n <;> simp [committedOf]

theorem doorOf_eq_none_iff (n : Nat) : doorOf n = none ↔ 3 < n := by
  rcases n with _ | _ | _ | _ | n <;> simp [doorOf]

theorem serviceOf_eq_none_iff (n : Nat) : serviceOf n = none ↔ 5 < n := by
  rcases n with _ | _ | _ | _ | _ | _ | n <;> simp [serviceOf]

theorem eq_motionCode_of_motionOf {n : Nat} {m : Motion} (h : motionOf n = some m) : n = motionCode m := by
  unfold motionOf at h; split at h <;> cases h <;> rfl

theorem eq_committedCode_of_committedOf {n : Nat} {d : Option Dir} (h : committedOf n = some d) :
    n = committedCode d := by
  unfold committedOf at h; split at h <;> cases h <;> rfl

theorem eq_doorCode_of_doorOf {n : Nat} {d : Door} (h : doorOf n = some d) : n = doorCode d := by
  unfold doorOf at h; split at h <;> cases h <;> rfl

theorem eq_serviceCode_of_serviceOf {n : Nat} {v : Service} (h : serviceOf n = some v) : n = serviceCode v := by
  unfold serviceOf at h; split at h <;> cases h <;> rfl

/-- A CAR fails its check exactly on a field outside its range. -/
theorem reportOf_eq_none_iff (n : Nat) (e : RxEntry) :
    reportOf n e = none ↔
      (byteAt e.payload 1 ≠ 1 ∧ byteAt e.payload 1 ≠ 2) ∨ 3 < byteAt e.payload 8 ∨ 2 < byteAt e.payload 9
        ∨ 3 < byteAt e.payload 10 ∨ 5 < byteAt e.payload 11 ∨ 1048575 < tripleAt e.payload 2 := by
  rw [← motionOf_eq_none_iff, ← committedOf_eq_none_iff, ← doorOf_eq_none_iff, ← serviceOf_eq_none_iff]
  unfold reportOf
  dsimp only
  split
  next hm hc hd hv =>
    simp only [hm, hc, hd, hv, reduceCtorEq, false_or, ite_eq_right_iff, imp_false]
    omega
  next hnone =>
    simp only [true_iff]
    refine Classical.byContradiction fun hsome => ?_
    simp only [not_or, ← ne_eq, Option.ne_none_iff_exists'] at hsome
    obtain ⟨-, ⟨m, hm⟩, ⟨c, hc⟩, ⟨d, hd⟩, ⟨v, hv⟩, -⟩ := hsome
    exact hnone m c d v hm hc hd hv

/-- The speed word read as a number of 15 bits in two's complement (12.1). -/
theorem speedOf_eq (w : Nat) :
    speedOf w = if ((w % 32768 : Nat) : Int) < 16384 then ((w % 32768 : Nat) : Int)
      else ((w % 32768 : Nat) : Int) - 32768 := by
  unfold speedOf
  dsimp only
  split <;> split <;> omega

/-- The report of a CAR that passes its check, field by field. -/
theorem reportOf_eq_some {n : Nat} {e : RxEntry} {r : Report} (h : reportOf n e = some r) :
    r.deckCount = byteAt e.payload 1 ∧ r.height = tripleAt e.payload 2 ∧ r.stamp = e.stamp
      ∧ r.speed = max (-12000) (min 12000 (speedOf (wordAt e.payload 5)))
      ∧ r.nextStop = nextStopOf n (wordAt e.payload 5) (byteAt e.payload 7)
      ∧ byteAt e.payload 8 = motionCode r.motion ∧ byteAt e.payload 9 = committedCode r.committed
      ∧ byteAt e.payload 10 = doorCode r.door ∧ byteAt e.payload 11 = serviceCode r.service := by
  unfold reportOf at h
  dsimp only at h
  split at h
  next hm hc hd hv =>
    split at h
    · obtain rfl := Option.some.inj h
      exact ⟨rfl, rfl, rfl, congrArg (max _) (Int.min_comm ..), rfl, eq_motionCode_of_motionOf hm,
        eq_committedCode_of_committedOf hc, eq_doorCode_of_doorOf hd, eq_serviceCode_of_serviceOf hv⟩
    · simp at h
  next => simp at h

/-! ### A CAR taken (R35, R38, R39, R47, R178, R180) -/

/-- A CAR at the head of the queue is taken. -/
theorem exec_car {s : State} {e : RxEntry} {rest : List RxEntry} (h : headIs s e rest) (hk : e.kind = .car) :
    exec .car s = .next (settle (carTaken e (headTaken s rest))) := by
  rw [← takeHead_of_headIs (fits := fun e => e.kind == .car) h (by simp [hk])]
  rfl

/-- The station as a checked report leaves its power state: woken, unless the report is an activity at the instant
of the idle drain (R178, R180). -/
def reportWoken (k : CarKey) (r : Report) (s : State) : State :=
  if (reportWakes k r s && !(idleDrainedNow s && reportActs k r s)) = true then wakeSource s else s

/-- A CAR that fails its check. -/
theorem carTaken_of_none {e : RxEntry} {s : State} (h : reportOf (floorCount s.cfg) e = none) :
    carTaken e s = setFlag .lineCheckError s := by
  simp only [carTaken, h]

/-- A CAR that passes its check. -/
theorem carTaken_of_some {e : RxEntry} {s : State} {r : Report} (h : reportOf (floorCount s.cfg) e = some r) :
    carTaken e s =
      if s.power.mode = .dormant then reportWoken (carKeyOf (byteAt e.payload 0)) r s
      else
        enterReport (carKeyOf (byteAt e.payload 0)) r (reportWoken (carKeyOf (byteAt e.payload 0)) r s) := by
  simp only [carTaken, h]
  rfl

/-- When a report wakes the station, and what the wake leaves. -/
theorem reportWoken_eq (k : CarKey) (r : Report) (s : State) :
    reportWoken k r s =
      if asleep s.power.mode = true ∧ (isPinned s k && runs r.motion || isPinned s k && r.door == .opening) = true
          ∧ ¬(drainsIdle s ∧ (isPinned s k && runs r.motion) = true ∧ s.now - r.stamp < s.cfg.lostTimeout) then
        awakened .dim s
      else s := by
  have wakes : (reportWakes k r s && !(idleDrainedNow s && reportActs k r s)) = true ↔
      (isPinned s k && runs r.motion || isPinned s k && r.door == .opening) = true
        ∧ ¬(drainsIdle s ∧ (isPinned s k && runs r.motion) = true ∧ s.now - r.stamp < s.cfg.lostTimeout) := by
    rw [← idleDrainedNow_iff]
    grind [reportWakes, reportActs]
  unfold reportWoken
  rw [wakeSource_eq]
  by_cases ha : asleep s.power.mode = true
  · simp only [ha, wakes, true_and, if_true]
  · rw [if_neg ha, ite_self, if_neg fun h => ha h.1]

@[simp] theorem reportWoken_now (k : CarKey) (r : Report) (s : State) : (reportWoken k r s).now = s.now := by
  unfold reportWoken; split <;> simp

@[simp] theorem reportWoken_cfg (k : CarKey) (r : Report) (s : State) : (reportWoken k r s).cfg = s.cfg := by
  unfold reportWoken; split <;> simp

@[simp] theorem reportWoken_cars (k : CarKey) (r : Report) (s : State) : (reportWoken k r s).cars = s.cars := by
  unfold reportWoken; split <;> simp

/-- A wake restarts the idle deadline, so an activity at the same instant sets it to the same (R173, R178). -/
theorem idleAnew_reportWoken (k : CarKey) (r : Report) (s : State) : idleAnew (reportWoken k r s) = idleAnew s := by
  rw [reportWoken_eq]
  split
  · simp only [idleAnew, awakened, wakened]
    split <;> rfl
  · rfl

/-- The tests of a record `c` written into the table `cars` by a station `s` that a wake has made `h`, and the
activity of a pinned car that runs (R35, R49). -/
def reportActive (k : CarKey) (r : Report) (c : CarRecord) (cars : List CarRecord) (s h : State) : State :=
  let live := phaseTests (fun p => p.car == k) (carTested k c { h with cars := cars })
  if isPinned s k && runs r.motion then { live with power := { h.power with idleDeadline := idleAnew s } } else live

/-- The same, with the record STALE at once where the report is that old (R39). -/
def reportEntered (k : CarKey) (r : Report) (c : CarRecord) (cars : List CarRecord) (s h : State) : State :=
  let active := reportActive k r c cars s h
  if s.now - r.stamp < s.cfg.staleTimeout then active
  else
    carTested k { c with freshness := .stale }
      { active with cars := cars.map fun x => if x.key = k then { x with freshness := .stale } else x }

@[simp] theorem reportActive_cars (k : CarKey) (r : Report) (c : CarRecord) (cars : List CarRecord) (s h : State) :
    (reportActive k r c cars s h).cars = cars := by
  unfold reportActive; dsimp only; split <;> rfl

/-- The tests and the activity that follow a written record. -/
theorem reportActivity_carTests {k : CarKey} {r : Report} {c : CarRecord} {cars : List CarRecord} {s h : State}
    (hc : findCar cars k = some c) (hp : (cars.any fun x => x.key == k && x.pinned) = isPinned s k)
    (hi : idleAnew h = idleAnew s) :
    reportActivity k r (carTests k { h with cars := cars }) = reportActive k r c cars s h := by
  have tests : carTests k { h with cars := cars }
      = phaseTests (fun p => p.car == k) (carTested k c { h with cars := cars }) :=
    congrArg _ (testLanterns_of_findCar hc)
  rw [tests, reportActivity, activity_eq, reportActive, ← hp, ← hi]
  rfl

/-- A report written, in closed form: the table holds its record, every record of its key LIVE, and the pinned
cars of before. -/
theorem writeReport_eq {k : CarKey} {r : Report} {c : CarRecord} {cars : List CarRecord} {s h : State}
    (hc : findCar cars k = some c) (hl : ∀ x ∈ cars, x.key = k → x.freshness = .live)
    (hp : (cars.any fun x => x.key == k && x.pinned) = isPinned s k) (hi : idleAnew h = idleAnew s)
    (hnow : h.now = s.now) (hcfg : h.cfg = s.cfg) : writeReport k r cars h = reportEntered k r c cars s h := by
  have stale : goStale k (reportActive k r c cars s h) =
      carTested k { c with freshness := .stale }
        { reportActive k r c cars s h with
          cars := cars.map fun x => if x.key = k then { x with freshness := .stale } else x } := by
    rw [goStale_eq (c := c) (by rw [reportActive_cars, hc]) (by rwa [reportActive_cars]), reportActive_cars]
  rw [writeReport, reportActivity_carTests hc hp hi, stale, hnow, hcfg]
  by_cases young : s.now - r.stamp < s.cfg.staleTimeout
  · exact (if_neg (Nat.not_le.2 young)).trans (if_pos young).symm
  · exact (if_pos (Nat.not_lt.1 young)).trans (if_neg young).symm

/-- A report as old as the lost timeout is dropped (R39). -/
theorem enterReport_of_old {k : CarKey} {r : Report} {s : State} (h : s.cfg.lostTimeout ≤ s.now - r.stamp) :
    enterReport k r s = s := if_pos h

/-- A younger report of a car with a record (R35). -/
theorem enterReport_of_known {k : CarKey} {r : Report} {c : CarRecord} {s : State}
    (hy : s.now - r.stamp < s.cfg.lostTimeout) (hc : findCar s.cars k = some c) :
    enterReport k r (reportWoken k r s) =
      reportEntered k r (withReport s.cfg s.now r c) (updateCar k (withReport s.cfg s.now r) s.cars) s
        (reportWoken k r s) := by
  have live : ∀ x ∈ updateCar k (withReport s.cfg s.now r) s.cars, x.key = k → x.freshness = .live := by
    intro x hx hk
    obtain ⟨y, -, rfl⟩ := List.mem_map.1 hx
    split at hk <;> simp_all
  rw [← writeReport_eq (findCar_updateCar (fun _ => withReport_key ..) hc) live
    (any_pinned_updateCar (fun _ => ⟨withReport_key .., withReport_pinned ..⟩) s.cars k k)
    (idleAnew_reportWoken ..) (reportWoken_now ..) (reportWoken_cfg ..)]
  simp only [enterReport, reportWoken_now, reportWoken_cfg, reportWoken_cars, hc, if_neg (Nat.not_le.2 hy)]

/-- A younger report of a car without a record, in a table with a place (R38). -/
theorem enterReport_of_unknown {k : CarKey} {r : Report} {s : State} (hy : s.now - r.stamp < s.cfg.lostTimeout)
    (hc : findCar s.cars k = none) (hn : s.cars.length < 32) :
    enterReport k r (reportWoken k r s) =
      reportEntered k r (withReport s.cfg s.now r (newCar k)) (s.cars ++ [withReport s.cfg s.now r (newCar k)]) s
        (reportWoken k r s) := by
  have absent : ∀ x ∈ s.cars, x.key ≠ k := by simpa [findCar] using hc
  have found : findCar (s.cars ++ [withReport s.cfg s.now r (newCar k)]) k
      = some (withReport s.cfg s.now r (newCar k)) := by
    unfold findCar at hc ⊢
    simp [List.find?_append, hc, newCar]
  have live : ∀ x ∈ s.cars ++ [withReport s.cfg s.now r (newCar k)], x.key = k → x.freshness = .live := by
    intro x hx hk
    rcases List.mem_append.1 hx with hx | hx
    · exact absurd hk (absent x hx)
    · rw [List.mem_singleton.1 hx, withReport_freshness]
  have pinned : ((s.cars ++ [withReport s.cfg s.now r (newCar k)]).any fun x => x.key == k && x.pinned)
      = isPinned s k := by
    simp [isPinned, newCar]
  rw [← writeReport_eq found live pinned (idleAnew_reportWoken ..) (reportWoken_now ..) (reportWoken_cfg ..)]
  simp only [enterReport, reportWoken_now, reportWoken_cfg, reportWoken_cars, hc, if_neg (Nat.not_le.2 hy), if_pos hn]

/-- A younger report of a car without a record, in a full table (R38). -/
theorem enterReport_of_full {k : CarKey} {r : Report} {s : State} (hy : s.now - r.stamp < s.cfg.lostTimeout)
    (hc : findCar s.cars k = none) (hn : 32 ≤ s.cars.length) :
    enterReport k r (reportWoken k r s) = setFlag .carTableFull (reportWoken k r s) := by
  simp only [enterReport, reportWoken_now, reportWoken_cfg, reportWoken_cars, hc, if_neg (Nat.not_le.2 hy),
    if_neg (Nat.not_lt.2 hn)]

/-- Settles O30: the check, the wake, and the report entered or not, each in closed form. -/
theorem carReportsAreCheckedAgedAndEntered : Obligations.CarReportsAreCheckedAgedAndEntered := by
  intro s e rest h hk b k n v
  refine ⟨reportOf_eq_none_iff n e, fun r hr => ?_, _, exec_car h hk, fun hr => ?_, fun r hr => ?_⟩
  · obtain ⟨hdecks, hheight, hstamp, hspeed, hrest⟩ := reportOf_eq_some hr
    rw [speedOf_eq] at hspeed
    exact ⟨hdecks, hheight, hstamp, hspeed, hrest⟩
  · rw [carTaken_of_none (s := headTaken s rest) hr]
    exact settle_settles _
  intro pinned moves woken written tested entered
  have hw : reportWoken k r (headTaken s rest) = woken := reportWoken_eq ..
  rw [carTaken_of_some (s := headTaken s rest) hr]
  refine ⟨fun hold => ?_, fun hawake hyoung => ?_⟩
  · rw [← hw]
    by_cases hdorm : (headTaken s rest).power.mode = .dormant
    · rw [if_pos hdorm]
      exact settle_settles _
    · rw [if_neg hdorm, enterReport_of_old]
      · exact settle_settles _
      · rw [reportWoken_cfg, reportWoken_now]
        exact hold.resolve_left hdorm
  · rw [if_neg (by exact hawake)]
    refine ⟨fun c hc => ?_, fun hc hn => ?_, fun hc hn => ?_⟩
    · rw [enterReport_of_known (s := headTaken s rest) hyoung hc, hw]
      exact settle_settles _
    · rw [enterReport_of_unknown (s := headTaken s rest) hyoung hc hn, hw]
      exact settle_settles _
    · rw [enterReport_of_full (s := headTaken s rest) hyoung hc hn, hw]
      exact settle_settles _

end Sys2Proof.CarRecords
end

section
/-! PROOF. The timebase: one tick of the station on an empty queue. -/

namespace Sys2Proof.Timebase

open Sys2Proof.Machine Sys2Proof.Safety Sys2Proof.Laws

/-! ### The tick -/

theorem step_of_pending_nil {s : State} (h : s.pending = []) : step s = .next (tick s) := by
  simp only [step, h]

/-- No deadline has passed exactly when no command is due. -/
theorem dueCommands_eq_nil_iff (s : State) : dueCommands s = [] ↔ ∀ c, ¬deadlinePassed s c := by
  simp only [List.eq_nil_iff_forall_not_mem, mem_dueCommands]

/-- With a deadline passed, the tick queues the due commands and does nothing else. -/
theorem tick_of_due {s : State} (h : ∃ c, deadlinePassed s c) : tick s = { s with pending := dueCommands s } := by
  have due : dueCommands s ≠ [] := by
    rw [Ne, dueCommands_eq_nil_iff]
    exact fun none => h.elim none
  unfold tick
  split
  · exact absurd ‹_› due
  · simp only [*]

/-- With no deadline passed, the tick goes on by 1 ms and queues the commands of the new instant. -/
theorem tick_of_idle {s : State} (h : ∀ c, ¬deadlinePassed s c) :
    tick s = { advance s with pending := instantCommands (advance s) } := by
  simp only [tick, (dueCommands_eq_nil_iff s).2 h]

/-- What the clock brings does not hang on what waits. -/
theorem clockEvent_withPending (s : State) (cs : List Instr) (c : Instr) :
    clockEvent { s with pending := cs } c ↔ clockEvent s c := by
  cases c <;> exact Iff.rfl

/-! ### The samplers -/

/-- The scanner samples the contacts while it runs (R84). -/
theorem advance_keypad (s : State) :
    (advance s).keypad =
      if serving s = true then { s.keypad with keys := s.keypad.keys.map (sampleKey (s.now + 1)) } else s.keypad :=
  rfl

/-- The recall key is sampled exactly from LOADING on, where it is fitted (R143). -/
theorem keySampled_iff (s : State) : keySampled s = true ↔ recallSampled s := by
  simp [keySampled, recallSampled]

theorem advance_recallLatch_of_not_sampled {s : State} (h : ¬recallSampled s) :
    (advance s).recallLatch = s.recallLatch :=
  if_neg (mt (keySampled_iff s).1 h)

theorem advance_recallLatch_of_sampled {s : State} (h : recallSampled s) :
    (advance s).recallLatch = sampleRecall (s.now + 1) s.recallLatch :=
  if_pos ((keySampled_iff s).2 h)

theorem sampleRecall_of_ne {r : RecallLatch} (h : contactPosition r ≠ r.reading) (now : Nat) :
    sampleRecall now r = { r with reading := contactPosition r, readingSince := now } := if_neg h

theorem sampleRecall_of_eq {r : RecallLatch} (h : contactPosition r = r.reading) (now : Nat) :
    sampleRecall now r = r := if_pos h

/-- Settles O2: a tick with a deadline passed queues what is due, and any other one samples the contacts. -/
theorem stepOnEmptyQueueTicks : Obligations.StepOnEmptyQueueTicks := by
  intro s hs
  refine ⟨tick s, step_of_pending_nil hs, fun due => ?_, fun idle => ?_⟩
  · rw [tick_of_due due]
    exact ⟨rfl, mem_dueCommands s⟩
  · intro now sampled l position
    rw [tick_of_idle idle]
    refine ⟨rfl, fun hserve => ?_, fun hserve => ?_, fun hrecall moved => ?_, fun held => ?_, fun c => ?_⟩
    · exact (advance_keypad s).trans (if_pos hserve)
    · exact (advance_keypad s).trans (if_neg (by simp [hserve]))
    · exact (advance_recallLatch_of_sampled hrecall).trans (sampleRecall_of_ne moved _)
    · show (advance s).recallLatch = s.recallLatch
      by_cases hrecall : recallSampled s
      · have still : contactPosition s.recallLatch = s.recallLatch.reading := held.resolve_left (not_not_intro hrecall)
        rw [advance_recallLatch_of_sampled hrecall, sampleRecall_of_eq still]
      · exact advance_recallLatch_of_not_sampled hrecall
    · rw [clockEvent_withPending]
      exact mem_instantCommands (advance s) c

end Sys2Proof.Timebase
end

section
/-! PROOF. Position tracking (chapter 4): the estimate, the indicated floor, the displayed floors, and the tracking
instant. First one rule per function of the tracker, then the statements. -/

namespace Sys2Proof.PositionTracking

open Sys2Proof.Machine Sys2Proof.Safety Sys2Proof.Laws Sys2Proof.CarRecords

/-! ### The estimate (R51 to R54) -/

/-- The displacement of a car that runs (R52). -/
theorem displacement_of_runs {r : Report} (h : r.motion = .runUp ∨ r.motion = .runDown) (now : Nat) :
    displacement now r = (r.speed * (min (now - r.stamp) 400 : Nat)).tdiv 1000 := by
  rcases h with h | h <;> simp only [displacement, h]

/-- A car that stands is not displaced (R51). -/
theorem displacement_of_stands {r : Report} (h : r.motion = .parked ∨ r.motion = .levelling) (now : Nat) :
    displacement now r = 0 := by
  rcases h with h | h <;> simp only [displacement, h]

/-- A report's car runs or stands. -/
theorem runs_or_stands (m : Motion) : (m = .runUp ∨ m = .runDown) ∨ m = .parked ∨ m = .levelling := by
  cases m <;> simp

/-- At 12 m/s the horizon of 400 ms holds 4,800 mm (R51, R52). -/
theorem natAbs_displacement_le {r : Report} (hlo : -12000 ≤ r.speed) (hhi : r.speed ≤ 12000) (now : Nat) :
    (displacement now r).natAbs ≤ 4800 := by
  rcases runs_or_stands r.motion with h | h
  · have product : r.speed.natAbs * min (now - r.stamp) 400 ≤ 12000 * 400 :=
      Nat.mul_le_mul (by omega) (Nat.min_le_right _ _)
    rw [displacement_of_runs h, Int.natAbs_tdiv, Int.natAbs_mul, Int.natAbs_natCast]
    exact Nat.div_le_of_le_mul product
  · simp [displacement_of_stands h]

/-- Truncation toward zero keeps the sign of the speed (R52). -/
theorem displacement_nonneg {r : Report} (h : 0 ≤ r.speed) (now : Nat) : 0 ≤ displacement now r := by
  rcases runs_or_stands r.motion with hm | hm
  · rw [displacement_of_runs hm]
    exact Int.tdiv_nonneg (Int.mul_nonneg h (Int.natCast_nonneg _)) (by decide)
  · exact Int.le_of_eq (displacement_of_stands hm now).symm

theorem displacement_nonpos {r : Report} (h : r.speed ≤ 0) (now : Nat) : displacement now r ≤ 0 := by
  rcases runs_or_stands r.motion with hm | hm
  · rw [displacement_of_runs hm]
    have back : 0 ≤ (-r.speed * (min (now - r.stamp) 400 : Nat)).tdiv 1000 :=
      Int.tdiv_nonneg (Int.mul_nonneg (by omega) (Int.natCast_nonneg _)) (by decide)
    rw [Int.neg_mul, Int.neg_tdiv] at back
    omega
  · exact Int.le_of_eq (displacement_of_stands hm now)

theorem levelOf_of_floor {c : Settings} {f : Nat} {z : Floor} (h : c.floors[f]? = some z) : levelOf c f = z.level := by
  simp only [levelOf, h]

/-- The clamp of a car that runs up to a stop at or above it (R53). -/
theorem nextStopClamp_up {c : Settings} {r : Report} {f : Nat} (hs : r.nextStop = some f) (hm : r.motion = .runUp)
    (x : Int) :
    nextStopClamp c r x = if (r.height : Int) ≤ levelOf c f then min x (levelOf c f) else x := by
  simp only [nextStopClamp, hs, hm]

/-- The clamp of a car that runs down to a stop at or below it (R53). -/
theorem nextStopClamp_down {c : Settings} {r : Report} {f : Nat} (hs : r.nextStop = some f)
    (hm : r.motion = .runDown) (x : Int) :
    nextStopClamp c r x = if levelOf c f ≤ (r.height : Int) then max x (levelOf c f) else x := by
  simp only [nextStopClamp, hs, hm]

/-- Without a next stop, and while the car stands, nothing is clamped (R53). -/
theorem nextStopClamp_free {c : Settings} {r : Report}
    (h : r.nextStop = none ∨ r.motion = .parked ∨ r.motion = .levelling) (x : Int) : nextStopClamp c r x = x := by
  rcases h with h | h | h
  · simp only [nextStopClamp, h]
  · cases hs : r.nextStop <;> simp only [nextStopClamp, hs, h]
  · cases hs : r.nextStop <;> simp only [nextStopClamp, hs, h]

/-- The clamp leaves the estimate between the reported height and the displaced one (R53). -/
theorem nextStopClamp_between (c : Settings) (r : Report) (x : Int) :
    min x r.height ≤ nextStopClamp c r x ∧ nextStopClamp c r x ≤ max x r.height := by
  unfold nextStopClamp
  split
  · split <;> omega
  · split <;> omega
  · omega

/-- The map clamp moves no two heights apart (R54). -/
theorem mapClamp_sub_le (c : Settings) (y z : Int) : (mapClamp c y - mapClamp c z).natAbs ≤ (y - z).natAbs := by
  simp only [mapClamp]
  omega

/-- On a map whose top is not below its bottom a clamped height lies within it (R54). -/
theorem mapClamp_within {c : Settings} (h : levelOf c 0 ≤ levelOf c (c.floors.length - 1)) (y : Int) :
    levelOf c 0 ≤ mapClamp c y ∧ mapClamp c y ≤ levelOf c (c.floors.length - 1) := by
  simp only [mapClamp, floorCount]
  omega

/-- Settles O35: the displacement, then the two clamps, each by its own rule. -/
theorem estimatesStayWithinTheHorizon : Obligations.EstimatesStayWithinTheHorizon := by
  intro c now r hlo hhi x y top
  have moved : (displacement now r).natAbs ≤ 4800 := natAbs_displacement_le hlo hhi now
  have between : min x r.height ≤ y ∧ y ≤ max x r.height := nextStopClamp_between c r x
  refine ⟨fun h => displacement_of_runs h now, fun h => displacement_of_stands h now, moved,
    fun h => displacement_nonneg h now, fun h => displacement_nonpos h now, fun f z h => levelOf_of_floor h,
    fun f hs => ⟨fun hm h => (nextStopClamp_up hs hm x).trans (if_pos h),
      fun hm h => (nextStopClamp_down hs hm x).trans (if_pos h), ?_⟩,
    fun h => nextStopClamp_free h x, between, rfl, fun hmap => ?_⟩
  · rintro (⟨hm, h⟩ | ⟨hm, h⟩)
    · exact (nextStopClamp_up hs hm x).trans (if_neg (by omega))
    · exact (nextStopClamp_down hs hm x).trans (if_neg (by omega))
  · obtain ⟨hbottom, htop⟩ := mapClamp_within hmap y
    refine ⟨rfl, hbottom, htop, ?_⟩
    calc (estimateOf c now r - mapClamp c r.height).natAbs
        ≤ (y - r.height).natAbs := mapClamp_sub_le c y r.height
      _ ≤ (displacement now r).natAbs := by omega
      _ ≤ 4800 := moved

/-! ### Counting switch points (R56) -/

/-- The switch points in strict order, as a relation between every two of them. -/
theorem pairwise_of_ascending : ∀ {l : List Nat}, ascending l → l.Pairwise (· < ·)
  | [], _ => .nil
  | [_], _ => List.pairwise_singleton _ _
  | a :: b :: l, ⟨hab, h⟩ => by
    have tail := pairwise_of_ascending h
    refine List.pairwise_cons.2 ⟨fun x hx => ?_, tail⟩
    rcases List.mem_cons.1 hx with rfl | hx
    · exact hab
    · exact Nat.lt_trans hab (List.rel_of_pairwise_cons tail hx)

/-- In an ordered list, the elements at or below a height are the first ones. -/
theorem lt_length_filter_le_iff {l : List Nat} (h : l.Pairwise (· < ·)) {i p : Nat} (hp : l[i]? = some p) (y : Int) :
    i < (l.filter fun q : Nat => decide ((q : Int) ≤ y)).length ↔ (p : Int) ≤ y := by
  induction l generalizing i with
  | nil => simp at hp
  | cons a l ih =>
    obtain ⟨below, tail⟩ := List.pairwise_cons.1 h
    by_cases ha : (a : Int) ≤ y
    · rw [List.filter_cons_of_pos (by simpa using ha), List.length_cons]
      cases i with
      | zero =>
        obtain rfl : a = p := by simpa using hp
        simpa using ha
      | succ i =>
        rw [Nat.add_lt_add_iff_right]
        exact ih tail (by simpa using hp)
    · have above : ∀ q ∈ a :: l, ¬(q : Int) ≤ y := by
        intro q hq
        rcases List.mem_cons.1 hq with rfl | hq
        · exact ha
        · have := below q hq
          omega
      rw [List.filter_eq_nil_iff.2 (by simpa using above)]
      simpa using above p (List.mem_of_getElem? hp)

/-- The count reaches beyond a switch point exactly when the height is at it or above (R56). -/
theorem lt_countAt_iff {c : Settings} (h : ascending c.switchPoints) {i p : Nat} (hp : c.switchPoints[i]? = some p)
    (y : Int) : i < countAt c y ↔ (p : Int) ≤ y :=
  lt_length_filter_le_iff (pairwise_of_ascending h) hp y

theorem countAt_le_length (c : Settings) (y : Int) : countAt c y ≤ c.switchPoints.length := List.length_filter_le ..

/-! ### Up and down steps (R58) -/

/-- An up step: the estimate is at the next switch point and the hysteresis above it. -/
theorem upSteps_of_le {sw : List Nat} {h : Nat} {x : Int} {f p : Nat} (hp : sw[f]? = some p) (hx : (p : Int) + h ≤ x)
    (fuel : Nat) : upSteps sw h x (fuel + 1) f = upSteps sw h x fuel (f + 1) := by
  simp only [upSteps, hp, if_pos hx]

theorem upSteps_of_not_le {sw : List Nat} {h : Nat} {x : Int} {f p : Nat} (hp : sw[f]? = some p)
    (hx : ¬(p : Int) + h ≤ x) (fuel : Nat) : upSteps sw h x (fuel + 1) f = f := by
  simp only [upSteps, hp, if_neg hx]

theorem upSteps_of_none {sw : List Nat} {f : Nat} (hp : sw[f]? = none) (h : Nat) (x : Int) (fuel : Nat) :
    upSteps sw h x fuel f = f := by
  cases fuel <;> simp only [upSteps, hp]

/-- A down step: the estimate is below the switch point under the floor, by more than the hysteresis. -/
theorem downSteps_of_lt {sw : List Nat} {h : Nat} {x : Int} {f p : Nat} (hp : sw[f]? = some p)
    (hx : x < (p : Int) - h) : downSteps sw h x (f + 1) = downSteps sw h x f := by
  simp only [downSteps, hp, if_pos hx]

theorem downSteps_of_not_lt {sw : List Nat} {h : Nat} {x : Int} {f p : Nat} (hp : sw[f]? = some p)
    (hx : ¬x < (p : Int) - h) : downSteps sw h x (f + 1) = f + 1 := by
  simp only [downSteps, hp, if_neg hx]

theorem downSteps_of_none {sw : List Nat} {f : Nat} (hp : sw[f]? = none) (h : Nat) (x : Int) :
    downSteps sw h x (f + 1) = f + 1 := by
  simp only [downSteps, hp]

/-- Up steps never go down. -/
theorem le_upSteps (sw : List Nat) (h : Nat) (x : Int) (fuel f : Nat) : f ≤ upSteps sw h x fuel f := by
  induction fuel generalizing f with
  | zero => exact Nat.le_refl f
  | succ fuel ih =>
    cases hp : sw[f]? with
    | none => exact Nat.le_of_eq (upSteps_of_none hp h x (fuel + 1)).symm
    | some p =>
      by_cases hx : (p : Int) + h ≤ x
      · rw [upSteps_of_le hp hx]
        exact Nat.le_of_succ_le (ih (f + 1))
      · exact Nat.le_of_eq (upSteps_of_not_le hp hx fuel).symm

/-- Down steps never go up. -/
theorem downSteps_le (sw : List Nat) (h : Nat) (x : Int) (f : Nat) : downSteps sw h x f ≤ f := by
  induction f with
  | zero => exact Nat.le_refl 0
  | succ f ih =>
    cases hp : sw[f]? with
    | none => exact Nat.le_of_eq (downSteps_of_none hp h x)
    | some p =>
      by_cases hx : x < (p : Int) - h
      · rw [downSteps_of_lt hp hx]
        exact Nat.le_succ_of_le ih
      · exact Nat.le_of_eq (downSteps_of_not_lt hp hx)

/-- The end of the up steps (R58), with fuel for every switch point from the floor on. -/
theorem upSteps_eq_max {c : Settings} (ha : ascending c.switchPoints) (h : Nat) (x : Int) {fuel f : Nat}
    (hf : f ≤ c.switchPoints.length) (hfuel : c.switchPoints.length ≤ f + fuel) :
    upSteps c.switchPoints h x fuel f = max f (countAt c (x - h)) := by
  have most := countAt_le_length c (x - h)
  induction fuel generalizing f with
  | zero =>
    show f = _
    omega
  | succ fuel ih =>
    cases hp : c.switchPoints[f]? with
    | none =>
      have := List.getElem?_eq_none_iff.1 hp
      rw [upSteps_of_none hp]
      omega
    | some p =>
      have inside := (List.getElem?_eq_some_iff.1 hp).1
      have counted := lt_countAt_iff ha hp (x - h)
      by_cases hx : (p : Int) + h ≤ x
      · rw [upSteps_of_le hp hx, ih (by omega) (by omega)]
        omega
      · rw [upSteps_of_not_le hp hx]
        omega

/-- The end of the down steps (R58). -/
theorem downSteps_eq_min {c : Settings} (ha : ascending c.switchPoints) (h : Nat) (x : Int) {f : Nat}
    (hf : f ≤ c.switchPoints.length) : downSteps c.switchPoints h x f = min f (countAt c (x + h)) := by
  induction f with
  | zero => exact (Nat.zero_min _).symm
  | succ f ih =>
    have hp : c.switchPoints[f]? = some c.switchPoints[f] := List.getElem?_eq_getElem hf
    have counted := lt_countAt_iff ha hp (x + h)
    by_cases hx : x < (c.switchPoints[f] : Int) - h
    · rw [downSteps_of_lt hp hx, ih (by omega)]
      omega
    · rw [downSteps_of_not_lt hp hx]
      omega

/-- Settles O36: the ends of the steps, and one step, by the count on either side of the hysteresis. -/
theorem stepsEndAtTheCountOfSwitchPoints : Obligations.StepsEndAtTheCountOfSwitchPoints := by
  intro c x f ha hf
  have up := upSteps_eq_max ha c.hysteresis x hf (fuel := c.switchPoints.length + 1) (by omega)
  have down := downSteps_eq_min ha c.hysteresis x hf
  refine ⟨up, down, fun sw hp => ?_, fun sw hzero hp => ?_⟩
  · have counted := lt_countAt_iff ha hp (x - c.hysteresis)
    omega
  · have counted := lt_countAt_iff ha hp (x + c.hysteresis)
    omega

/-! ### The nearest level (R59) -/

/-- Among the first `n` floors, `g` has the least distance, and the lowest index of those that have it. -/
def nearestAmong (dist : Nat → Nat) (n g : Nat) : Prop :=
  g < n ∧ ∀ i, i < n → dist g ≤ dist i ∧ (dist i = dist g → g ≤ i)

/-- One more floor, which only a strictly smaller distance makes the nearest. -/
theorem nearestAmong_succ {dist : Nat → Nat} {n g : Nat} (h : nearestAmong dist n g) :
    nearestAmong dist (n + 1) (if dist n < dist g then n else g) := by
  obtain ⟨inside, least⟩ := h
  split
  · refine ⟨Nat.lt_succ_self n, fun i hi => ?_⟩
    rcases Nat.lt_succ_iff_lt_or_eq.1 hi with hi | rfl
    · have := least i hi
      omega
    · simp
  · refine ⟨Nat.lt_succ_of_lt inside, fun i hi => ?_⟩
    rcases Nat.lt_succ_iff_lt_or_eq.1 hi with hi | rfl
    · exact least i hi
    · omega

/-- The search for the nearest level goes on from the nearest of the floors before (R59). -/
theorem nearestFrom_nearestAmong {dist : Nat → Nat} {x : Int} {fs : List Floor} {n g : Nat}
    (hfs : ∀ j f, fs[j]? = some f → ((f.level : Int) - x).natAbs = dist (n + j)) (h : nearestAmong dist n g) :
    nearestAmong dist (n + fs.length) (nearestFrom x fs n g (dist g)) := by
  induction fs generalizing n g with
  | nil => exact h
  | cons f fs ih =>
    have here : ((f.level : Int) - x).natAbs = dist n := hfs 0 f rfl
    have later : ∀ j f', fs[j]? = some f' → ((f'.level : Int) - x).natAbs = dist (n + 1 + j) := by
      intro j f' hf'
      rw [hfs (j + 1) f' (by simpa using hf'), Nat.add_right_comm, Nat.add_assoc]
    have next := ih later (nearestAmong_succ h)
    rw [List.length_cons, Nat.add_comm fs.length, ← Nat.add_assoc]
    simp only [nearestFrom, here]
    split <;> rename_i hd
    · rwa [if_pos hd] at next
    · rwa [if_neg hd] at next

/-- The floor of the nearest level, ties to the lower index (R59). -/
theorem nearestFloor_nearestAmong {c : Settings} (h : c.floors ≠ []) (x : Int) :
    nearestAmong (fun i => (levelOf c i - x).natAbs) c.floors.length (nearestFloor c x) := by
  obtain ⟨f, fs, hfs⟩ := List.exists_cons_of_ne_nil h
  have first : levelOf c 0 = f.level := levelOf_of_floor (by simp [hfs])
  have others : ∀ j f', fs[j]? = some f' → ((f'.level : Int) - x).natAbs = (levelOf c (1 + j) - x).natAbs := by
    intro j f' hf'
    rw [levelOf_of_floor (by simpa [hfs, Nat.add_comm] using hf')]
  have alone : nearestAmong (fun i => (levelOf c i - x).natAbs) 1 0 :=
    ⟨Nat.one_pos, fun i hi => by simp [Nat.lt_one_iff.1 hi]⟩
  have rest := nearestFrom_nearestAmong others alone
  rw [hfs, List.length_cons, Nat.add_comm]
  simpa only [nearestFloor, hfs, first] using rest

/-! ### The indicated floor (R56 to R60) -/

section
variable {c : Settings} {r : Report} {x : Int} {f : Nat}

theorem indicatedFloor_up (h : r.motion = .runUp) :
    indicatedFloor c r x (some f) = upSteps c.switchPoints c.hysteresis x c.floors.length f := by
  simp only [indicatedFloor, h, floorCount]

theorem indicatedFloor_down (h : r.motion = .runDown) :
    indicatedFloor c r x (some f) = downSteps c.switchPoints c.hysteresis x f := by
  simp only [indicatedFloor, h]

theorem indicatedFloor_parked (h : r.motion = .parked) : indicatedFloor c r x (some f) = nearestFloor c x := by
  simp only [indicatedFloor, h]

theorem indicatedFloor_levelling_stop {stop : Nat} (h : r.motion = .levelling) (hs : r.nextStop = some stop) :
    indicatedFloor c r x (some f) = stop := by
  simp only [indicatedFloor, h, hs]

theorem indicatedFloor_levelling (h : r.motion = .levelling) (hs : r.nextStop = none) :
    indicatedFloor c r x (some f) =
      downSteps c.switchPoints c.hysteresis x (upSteps c.switchPoints c.hysteresis x c.floors.length f) := by
  simp only [indicatedFloor, h, hs, floorCount]

/-- Up steps on a map of R20 end at the count below the hysteresis, where that is higher (R58). -/
theorem upSteps_map (ha : ascending c.switchPoints) (hn : c.switchPoints.length + 1 = c.floors.length)
    (hf : f < c.floors.length) :
    upSteps c.switchPoints c.hysteresis x c.floors.length f = max f (countAt c (x - c.hysteresis)) :=
  upSteps_eq_max ha c.hysteresis x (by omega) (by omega)

/-- Down steps on a map of R20 end at the count above the hysteresis, where that is lower (R58). -/
theorem downSteps_map (ha : ascending c.switchPoints) (hn : c.switchPoints.length + 1 = c.floors.length)
    (hf : f < c.floors.length) :
    downSteps c.switchPoints c.hysteresis x f = min f (countAt c (x + c.hysteresis)) :=
  downSteps_eq_min ha c.hysteresis x (by omega)

theorem countAt_mono (c : Settings) {y z : Int} (h : y ≤ z) : countAt c y ≤ countAt c z := by
  unfold countAt
  simp only [← List.countP_eq_length_filter]
  exact List.countP_mono_left fun p _ hp => by
    simp only [decide_eq_true_eq] at hp ⊢
    omega

/-- Both steps bring the floor between the two counts (R60). -/
theorem bothSteps_map (ha : ascending c.switchPoints) (hn : c.switchPoints.length + 1 = c.floors.length)
    (hf : f < c.floors.length) :
    downSteps c.switchPoints c.hysteresis x (upSteps c.switchPoints c.hysteresis x c.floors.length f) =
      min (max f (countAt c (x - c.hysteresis))) (countAt c (x + c.hysteresis)) := by
  have most := countAt_le_length c (x - c.hysteresis)
  rw [upSteps_map ha hn hf, downSteps_map ha hn (by omega)]

/-- A floor of the map stays one by up or down steps, and the same steps at the same estimate leave it; by its
next stop or the nearest level it does not hang on the floor held (R62). -/
theorem indicatedFloor_again (ha : ascending c.switchPoints) (hn : c.switchPoints.length + 1 = c.floors.length)
    (hf : f < c.floors.length) :
    indicatedFloor c r x (some (indicatedFloor c r x (some f))) = indicatedFloor c r x (some f) := by
  have low := countAt_le_length c (x - c.hysteresis)
  cases hm : r.motion with
  | runUp =>
    rw [indicatedFloor_up hm, indicatedFloor_up hm, upSteps_map ha hn hf, upSteps_map ha hn (by omega)]
    omega
  | runDown =>
    rw [indicatedFloor_down hm, indicatedFloor_down hm, downSteps_map ha hn hf, downSteps_map ha hn (by omega)]
    omega
  | parked => rw [indicatedFloor_parked hm, indicatedFloor_parked hm]
  | levelling =>
    cases hs : r.nextStop with
    | some stop => rw [indicatedFloor_levelling_stop hm hs, indicatedFloor_levelling_stop hm hs]
    | none =>
      have ordered : countAt c (x - c.hysteresis) ≤ countAt c (x + c.hysteresis) := countAt_mono c (by omega)
      rw [indicatedFloor_levelling hm hs, indicatedFloor_levelling hm hs, bothSteps_map ha hn hf,
        bothSteps_map ha hn (by omega)]
      omega

end

/-! ### Displayable floors -/

theorem isDisplayable_iff (c : Settings) (f : Nat) :
    isDisplayable c f = true ↔ ∃ x, c.floors[f]? = some x ∧ x.displayable = true := by
  unfold isDisplayable
  split <;> simp [*]

theorem lt_length_of_isDisplayable {c : Settings} {f : Nat} (h : isDisplayable c f = true) : f < c.floors.length := by
  obtain ⟨x, hx, -⟩ := (isDisplayable_iff c f).1 h
  exact (List.getElem?_eq_some_iff.1 hx).1

/-- With a displayable floor below, the nearest one is found. -/
theorem displayableBelow_of_exists {c : Settings} {f : Nat} (h : ∃ d, d < f ∧ isDisplayable c d = true) :
    ∃ d, displayableBelow c f = some d ∧ d < f ∧ isDisplayable c d = true
      ∧ ∀ d', d' < f → isDisplayable c d' = true → d' ≤ d := by
  induction f with
  | zero => simp at h
  | succ f ih =>
    by_cases hf : isDisplayable c f = true
    · exact ⟨f, by simp [displayableBelow, hf], Nat.lt_succ_self f, hf, fun d' hd' _ => Nat.le_of_lt_succ hd'⟩
    · have below : ∀ d, d < f + 1 → isDisplayable c d = true → d < f := fun d hd shown =>
        Nat.lt_of_le_of_ne (Nat.le_of_lt_succ hd) fun e => hf (e ▸ shown)
      obtain ⟨d₀, hd₀, shown₀⟩ := h
      obtain ⟨d, found, hd, shown, nearest⟩ := ih ⟨d₀, below d₀ hd₀ shown₀, shown₀⟩
      exact ⟨d, by simp [displayableBelow, hf, found], Nat.lt_succ_of_lt hd, shown,
        fun d' hd' shown' => nearest d' (below d' hd' shown') shown'⟩

/-- With no displayable floor below, none is found. -/
theorem displayableBelow_eq_none {c : Settings} {f : Nat} (h : ∀ d, d < f → ¬isDisplayable c d = true) :
    displayableBelow c f = none := by
  induction f with
  | zero => rfl
  | succ f ih =>
    rw [displayableBelow, if_neg (h f (Nat.lt_succ_self f))]
    exact ih fun d hd => h d (Nat.lt_succ_of_lt hd)

/-- With a displayable floor above, the nearest one is found. -/
theorem displayableAbove_of_exists {c : Settings} {f : Nat} (h : ∃ d, f < d ∧ isDisplayable c d = true) :
    ∃ d, displayableAbove c f = some d ∧ f < d ∧ isDisplayable c d = true
      ∧ ∀ d', f < d' → isDisplayable c d' = true → d ≤ d' := by
  obtain ⟨d₀, hd₀, shown₀⟩ := h
  cases found : displayableAbove c f with
  | none =>
    have := List.find?_range_eq_none.1 found d₀ (lt_length_of_isDisplayable shown₀)
    simp [hd₀, shown₀] at this
  | some d =>
    obtain ⟨hd, -, least⟩ := List.find?_range_eq_some.1 found
    simp only [Bool.and_eq_true, decide_eq_true_eq] at hd
    refine ⟨d, rfl, hd.1, hd.2, fun d' hd' shown' => Nat.le_of_not_lt fun lower => ?_⟩
    have := least d' lower
    simp [hd', shown'] at this

/-! ### Displayed floors (the table of R64) -/

theorem displayedFloor_of_displayable {c : Settings} {f : Nat} (h : isDisplayable c f = true) (held : Option Nat) :
    displayedFloor c (some f) held = some f := by
  simp only [displayedFloor, if_pos h]

theorem displayedFloor_of_held {c : Settings} {f : Nat} (h : ¬isDisplayable c f = true) (d : Nat) :
    displayedFloor c (some f) (some d) = some d := by
  simp only [displayedFloor, if_neg h]

theorem displayedFloor_of_below {c : Settings} {f d : Nat} (h : ¬isDisplayable c f = true)
    (hd : displayableBelow c f = some d) : displayedFloor c (some f) none = some d := by
  simp only [displayedFloor, if_neg h, hd]

theorem displayedFloor_of_above {c : Settings} {f : Nat} (h : ¬isDisplayable c f = true)
    (hd : displayableBelow c f = none) : displayedFloor c (some f) none = displayableAbove c f := by
  simp only [displayedFloor, if_neg h, hd]

/-- A displayed floor stands by the table that gave it (R62, R64). -/
theorem displayedFloor_again (c : Settings) (deck held : Option Nat) :
    displayedFloor c deck (displayedFloor c deck held) = displayedFloor c deck held := by
  cases deck with
  | none => rfl
  | some f =>
    by_cases h : isDisplayable c f = true
    · rw [displayedFloor_of_displayable h, displayedFloor_of_displayable h]
    · cases shown : displayedFloor c (some f) held with
      | some d => exact displayedFloor_of_held h d
      | none =>
        cases held with
        | none => exact shown
        | some d => simp [displayedFloor_of_held h d] at shown

/-- The rows of R64 for a deck floor that may not be shown and no floor held: the nearest below, or with none below
the nearest above. -/
theorem displayedFloor_fresh {c : Settings} {f : Nat} (h : ¬isDisplayable c f = true) :
    ((∃ d, d < f ∧ isDisplayable c d = true) →
      ∃ d, displayedFloor c (some f) none = some d ∧ d < f ∧ isDisplayable c d = true
        ∧ ∀ d', d' < f → isDisplayable c d' = true → d' ≤ d)
    ∧ ((∀ d, d < f → ¬isDisplayable c d = true) → (∃ d, isDisplayable c d = true) →
      ∃ d, displayedFloor c (some f) none = some d ∧ f < d ∧ isDisplayable c d = true
        ∧ ∀ d', f < d' → isDisplayable c d' = true → d ≤ d') := by
  refine ⟨fun below => ?_, fun noneBelow ⟨d₀, shown₀⟩ => ?_⟩
  · obtain ⟨d, found, nearest⟩ := displayableBelow_of_exists below
    exact ⟨d, displayedFloor_of_below h found, nearest⟩
  · have above : f < d₀ := by
      rcases Nat.lt_trichotomy f d₀ with hlt | rfl | hgt
      · exact hlt
      · exact absurd shown₀ h
      · exact absurd shown₀ (noneBelow d₀ hgt)
    rw [displayedFloor_of_above h (displayableBelow_eq_none noneBelow)]
    exact displayableAbove_of_exists ⟨d₀, above, shown₀⟩

/-- The displayed floor of a region that shows the car (R64). -/
theorem shownFloors_getD {c : Settings} {k : CarKey} {deck : Deck} {i : Nat} {g : Region}
    (hg : c.regions[i]? = some g) (hk : g.kind = .position k deck) (n f : Nat) (held : List (Option Nat)) :
    (shownFloors c k n f held)[i]?.getD none =
      displayedFloor c (forDeck c n deck (some f)) (held[i]?.getD none) := by
  simp only [shownFloors, List.getElem?_mapIdx, hg, Option.map_some, Option.getD_some, hk, if_pos]

theorem shownFloors_length (c : Settings) (k : CarKey) (n f : Nat) (held : List (Option Nat)) :
    (shownFloors c k n f held).length = c.regions.length := List.length_mapIdx

/-- Displayed floors stand by the tables that gave them, region by region (R62, R64). -/
theorem shownFloors_again (c : Settings) (k : CarKey) (n f : Nat) (held : List (Option Nat)) :
    shownFloors c k n f (shownFloors c k n f held) = shownFloors c k n f held := by
  refine List.ext_getElem? fun i => ?_
  cases hg : c.regions[i]? with
  | none => simp only [shownFloors, List.getElem?_mapIdx, hg, Option.map_none]
  | some g =>
    simp only [shownFloors, List.getElem?_mapIdx, hg, Option.map_some, Option.getD_some]
    cases g.kind with
    | position car deck =>
      by_cases hcar : car = k
      · simp only [if_pos hcar, displayedFloor_again]
      · simp only [if_neg hcar]
    | _ => rfl

/-! ### One evaluation (R49) -/

theorem evaluate_of_no_report {rec : CarRecord} (h : rec.report = none) (c : Settings) (now : Nat) :
    evaluate c now rec = rec := by
  simp only [evaluate, h]

/-- What an evaluation writes. -/
theorem evaluate_of_report {rec : CarRecord} {r : Report} (h : rec.report = some r) (c : Settings) (now : Nat) :
    evaluate c now rec =
      { rec with
        estimate := some (estimateOf c now r)
        floor := some (indicatedFloor c r (estimateOf c now r) rec.floor)
        shown := shownFloors c rec.key r.deckCount (indicatedFloor c r (estimateOf c now r) rec.floor) rec.shown } := by
  simp only [evaluate, h]

theorem evaluate_report (c : Settings) (now : Nat) (rec : CarRecord) : (evaluate c now rec).report = rec.report := by
  unfold evaluate
  split <;> rfl

theorem evaluate_floor {rec : CarRecord} {r : Report} (h : rec.report = some r) (c : Settings) (now : Nat) :
    (evaluate c now rec).floor = some (indicatedFloor c r (estimateOf c now r) rec.floor) := by
  rw [evaluate_of_report h]

/-- The deck floors of a record with a report (R63). -/
theorem deckFloor_of_report {rec : CarRecord} {r : Report} (h : rec.report = some r) (c : Settings) (deck : Deck) :
    deckFloor c rec deck = forDeck c r.deckCount deck rec.floor := by
  simp only [deckFloor, h]

theorem deckFloor_of_no_report {rec : CarRecord} (h : rec.report = none) (c : Settings) (deck : Deck) :
    deckFloor c rec deck = none := by
  simp only [deckFloor, h]

/-- The displayed floor of a region after an evaluation, from its deck floor then and the one held (R64). -/
theorem evaluate_shown_getD {rec : CarRecord} {r : Report} (h : rec.report = some r) {c : Settings} {deck : Deck}
    {i : Nat} {g : Region} (hg : c.regions[i]? = some g) (hk : g.kind = .position rec.key deck) (now : Nat) :
    (evaluate c now rec).shown[i]?.getD none =
      displayedFloor c (deckFloor c (evaluate c now rec) deck) (rec.shown[i]?.getD none) := by
  rw [deckFloor_of_report ((evaluate_report c now rec).trans h), evaluate_floor h, evaluate_of_report h]
  exact shownFloors_getD hg hk ..

/-- R62: made again at one instant, an evaluation of a floor of the map changes nothing. -/
theorem evaluate_again {c : Settings} {rec : CarRecord} {f : Nat} (ha : ascending c.switchPoints)
    (hn : c.switchPoints.length + 1 = c.floors.length) (hfloor : rec.floor = some f) (hf : f < c.floors.length)
    (now : Nat) : evaluate c now (evaluate c now rec) = evaluate c now rec := by
  cases hr : rec.report with
  | none => rw [evaluate_of_no_report hr, evaluate_of_no_report hr]
  | some r =>
    rw [evaluate_of_report ((evaluate_report c now rec).trans hr), evaluate_of_report hr]
    simp only [hfloor, indicatedFloor_again ha hn hf, shownFloors_again]

/-! ### What an evaluation writes (R56 to R64) -/

/-- The floor indicated from one of the map, motion by motion, up to the nearest level (R57, R58, R60). -/
theorem indicatedFloor_closed {c : Settings} {r : Report} {x : Int} {f : Nat} (ha : ascending c.switchPoints)
    (hn : c.switchPoints.length + 1 = c.floors.length) (hf : f < c.floors.length) :
    let low := countAt c (x - c.hysteresis)
    let high := countAt c (x + c.hysteresis)
    (r.motion = .runUp → indicatedFloor c r x (some f) = max f low)
      ∧ (r.motion = .runDown → indicatedFloor c r x (some f) = min f high)
      ∧ (r.motion = .levelling → r.nextStop = none →
          indicatedFloor c r x (some f) = if f < low then low else if high < f then high else f) := by
  intro low high
  refine ⟨fun h => ?_, fun h => ?_, fun h hs => ?_⟩
  · rw [indicatedFloor_up h, upSteps_map ha hn hf]
  · rw [indicatedFloor_down h, downSteps_map ha hn hf]
  · have ordered : low ≤ high := countAt_mono c (by omega)
    rw [indicatedFloor_levelling h hs, bothSteps_map ha hn hf]
    split
    · omega
    · split <;> omega

/-- The upper deck's floor, one above the lower deck's, of a car of two decks below the top of the map (R63). -/
theorem deckFloor_upper {c : Settings} {rec : CarRecord} {r : Report} {f : Nat} (h : rec.report = some r)
    (hf : rec.floor = some f) :
    deckFloor c rec .upper = if r.deckCount = 2 ∧ f + 1 < c.floors.length then some (f + 1) else none := by
  rw [deckFloor_of_report h, hf]
  rfl

/-- Settles O37: the record's fields after an evaluation, the indicated floor by the motion, the decks and the table
of R64, and the two properties of R62. -/
theorem indicationsAreStable : Obligations.IndicationsAreStable := by
  intro c now rec next count shows
  have shows_iff : ∀ d, shows d ↔ isDisplayable c d = true := fun d => (isDisplayable_iff c d).symm
  refine ⟨fun h => ⟨evaluate_of_no_report h c now, deckFloor_of_no_report h c⟩, fun r hr => ?_,
    fun r f hr hfloor hf => ?_, fun hmap ha hfloor hsafe => ?_⟩
  · intro x
    have floor : next.floor = some (indicatedFloor c r x rec.floor) := evaluate_floor hr c now
    have report : next.report = some r := (evaluate_report c now rec).trans hr
    refine ⟨?_, fun hfloor => ?_, fun f hfloor => ?_, deckFloor_of_report report c .lower, fun f hf => ?_, ?_,
      fun i g deck hg hk => ?_⟩
    · simp only [next, x, evaluate_of_report hr]
    · rw [floor, hfloor]
      rfl
    · rw [floor, hfloor]
      refine ⟨fun ha hn hf => ?_, fun stop hm hs => ?_, fun hm hne => ?_⟩
      · obtain ⟨up, down, levelling⟩ := indicatedFloor_closed (r := r) (x := x) ha hn hf
        exact ⟨fun hm => congrArg some (up hm), fun hm => congrArg some (down hm),
          fun hm hs => congrArg some (levelling hm hs)⟩
      · rw [indicatedFloor_levelling_stop hm hs]
      · obtain ⟨inside, nearest⟩ := nearestFloor_nearestAmong hne x
        exact ⟨_, congrArg some (indicatedFloor_parked hm), inside, nearest⟩
    · have upper := deckFloor_upper (c := c) report hf
      exact ⟨fun h => upper.trans (if_pos h), fun h => upper.trans (if_neg h)⟩
    · show (evaluate c now rec).shown.length = _
      rw [evaluate_of_report hr]
      exact shownFloors_length ..
    · intro held displayed
      have table : displayed = displayedFloor c (deckFloor c next deck) held := evaluate_shown_getD hr hg hk now
      rw [table]
      simp only [shows_iff]
      refine ⟨fun h => by rw [h]; rfl, fun f hf => ?_⟩
      rw [hf]
      refine ⟨fun h => displayedFloor_of_displayable h held, fun h => ⟨fun d hd => ?_, fun hheld => ?_⟩⟩
      · rw [hd, displayedFloor_of_held h]
      · rw [hheld]
        exact displayedFloor_fresh h
  · refine ⟨_, evaluate_floor hr c now, fun hm => ?_, fun hm => ?_⟩
    · rw [hfloor, indicatedFloor_up hm]
      exact le_upSteps ..
    · rw [hfloor, indicatedFloor_down hm]
      exact downSteps_le ..
  · obtain ⟨f, hf⟩ := Option.isSome_iff_exists.1 hfloor
    obtain ⟨inMap, -⟩ := hsafe
    obtain ⟨-, hn, -⟩ := hmap
    exact evaluate_again ha hn hf (inMap f hf) now

/-! ### The lantern tests of a tracking instant (R49, R72) -/

/-- The LIVE record of a car. -/
def liveRecord (cars : List CarRecord) (k : CarKey) : Option CarRecord :=
  cars.find? fun c => c.key == k && c.freshness == .live

/-- The test of a lantern against the LIVE record of its car; with none it is left as it is. -/
def liveTest (s : State) (cars : List CarRecord) (q : Chime) (l : Lantern) : Lantern × Chime :=
  match liveRecord cars l.entry.car with
  | some c => testLantern s.cfg s.power.mode s.now c q l
  | none => (l, q)

theorem liveTest_fst (s : State) (cars : List CarRecord) (q q' : Chime) (l : Lantern) :
    (liveTest s cars q l).1 = (liveTest s cars q' l).1 := by
  unfold liveTest
  split
  · exact testLantern_fst ..
  · rfl

/-- Without two records of one car, the LIVE record is the record, for a car that has a LIVE one. -/
theorem liveRecord_eq {cars : List CarRecord} (hn : (cars.map CarRecord.key).Nodup) (k : CarKey) :
    liveRecord cars k = if isLive cars k = true then findCar cars k else none := by
  cases hl : liveRecord cars k with
  | none =>
    have dead : ¬isLive cars k = true := by
      simpa [isLive] using List.find?_eq_none.1 hl
    rw [if_neg dead]
  | some c =>
    have mem : c ∈ cars := List.mem_of_find?_eq_some hl
    have found : c.key = k ∧ c.freshness = .live := by simpa using List.find?_some hl
    have live : isLive cars k = true := List.any_eq_true.2 ⟨c, mem, by simp [found]⟩
    rw [if_pos live, ← found.1, findCar_of_mem hn mem]

/-- The tests of the cars with a LIVE record, lantern by lantern. -/
theorem testLanternList_live_cons {cars : List CarRecord} (hn : (cars.map CarRecord.key).Nodup) (s : State)
    (l : Lantern) (ls : List Lantern) (q : Chime) :
    testLanternList s.cfg s.power.mode s.now cars (isLive cars) (l :: ls) q =
      let rest := testLanternList s.cfg s.power.mode s.now cars (isLive cars) ls (liveTest s cars q l).2
      ((liveTest s cars q l).1 :: rest.1, rest.2) := by
  by_cases live : isLive cars l.entry.car = true
  · cases found : findCar cars l.entry.car <;> simp [testLanternList, liveTest, liveRecord_eq hn, live, found]
  · simp [testLanternList, liveTest, liveRecord_eq hn, live]

/-- The lantern tests of the cars with a LIVE record in closed form: each lantern on the chime that those before it
leave (assumption 6). -/
theorem testLanternList_live {cars : List CarRecord} (hn : (cars.map CarRecord.key).Nodup) (s : State) (q₀ : Chime)
    (ls : List Lantern) (q : Chime) :
    testLanternList s.cfg s.power.mode s.now cars (isLive cars) ls q =
      (ls.map fun l => (liveTest s cars q₀ l).1, ls.foldl (fun q l => (liveTest s cars q l).2) q) := by
  induction ls generalizing q with
  | nil => rfl
  | cons l ls ih => rw [testLanternList_live_cons hn, ih, List.map_cons, List.foldl_cons, liveTest_fst s cars q₀ q]

/-! ### The phase tests (R125, R126) -/

/-- Boarding and running as the phase tests read them off a LIVE record with a report. -/
theorem boardsNow_iff {s : State} {k : CarKey} {c : CarRecord} {r : Report} (hc : findCar s.cars k = some c)
    (hr : c.report = some r) (hl : c.freshness = .live) (deck : Option Deck) :
    boardsNow s k deck ↔
      deckFloor s.cfg c (deck.getD .lower) = s.cfg.homeFloor ∧ s.cfg.homeFloor.isSome = true
        ∧ standsStill r.motion = true ∧ doorOpens r.door = true := by
  simp only [boardsNow, hc, standsStill, doorOpens, Bool.or_eq_true, beq_iff_eq]
  constructor
  · rintro ⟨_, _, ⟨⟩, hr', -, home, floor, stands, door⟩
    obtain rfl := Option.some.inj (hr.symm.trans hr')
    exact ⟨floor, home, stands, door⟩
  · rintro ⟨floor, home, stands, door⟩
    exact ⟨c, r, rfl, hr, hl, home, floor, stands, door⟩

theorem runsNow_iff {s : State} {k : CarKey} {c : CarRecord} {r : Report} (hc : findCar s.cars k = some c)
    (hr : c.report = some r) (hl : c.freshness = .live) : runsNow s k ↔ runs r.motion = true := by
  simp only [runsNow, hc, runs, Bool.or_eq_true, beq_iff_eq]
  constructor
  · rintro ⟨_, _, ⟨⟩, hr', -, moves⟩
    obtain rfl := Option.some.inj (hr.symm.trans hr')
    exact moves
  · exact fun moves => ⟨c, r, rfl, hr, hl, moves⟩

/-- The phase test of a record whose car has a LIVE record, or has none. -/
theorem phaseOutcome_cases (s : State) (p : PromptRecord) :
    (∃ c r, findCar s.cars p.car = some c ∧ c.report = some r ∧ c.freshness = .live)
      ∨ (¬boardsNow s p.car p.deck ∧ ¬runsNow s p.car ∧ phaseOutcome s.cfg s.cars p = some p) := by
  cases hc : findCar s.cars p.car with
  | none => exact .inr (by simp [boardsNow, runsNow, phaseOutcome, hc])
  | some c =>
    cases hr : c.report with
    | none => exact .inr (by simp [boardsNow, runsNow, phaseOutcome, hc, hr])
    | some r =>
      by_cases hl : c.freshness = .live
      · exact .inl ⟨c, r, rfl, hr, hl⟩
      · exact .inr (by simp [boardsNow, runsNow, phaseOutcome, hc, hr, hl])

/-- A waiting assignment boards exactly when the terms of R125 hold. -/
theorem phaseOutcome_of_waiting {s : State} {p : PromptRecord} (h : p.phase = .waiting) :
    (boardsNow s p.car p.deck → phaseOutcome s.cfg s.cars p = some { p with phase := .boarding })
      ∧ (¬boardsNow s p.car p.deck → phaseOutcome s.cfg s.cars p = some p) := by
  rcases phaseOutcome_cases s p with ⟨c, r, hc, hr, hl⟩ | ⟨stays, -, outcome⟩
  · rw [boardsNow_iff hc hr hl]
    simp only [phaseOutcome, hc, hr, if_pos hl, h]
    exact ⟨fun terms => if_pos terms, fun terms => if_neg terms⟩
  · exact ⟨fun boards => absurd boards stays, fun _ => outcome⟩

/-- A boarding assignment is retired exactly when its car runs (R126). -/
theorem phaseOutcome_of_boarding {s : State} {p : PromptRecord} (h : p.phase = .boarding) :
    (runsNow s p.car → phaseOutcome s.cfg s.cars p = none)
      ∧ (¬runsNow s p.car → phaseOutcome s.cfg s.cars p = some p) := by
  rcases phaseOutcome_cases s p with ⟨c, r, hc, hr, hl⟩ | ⟨-, stands, outcome⟩
  · rw [runsNow_iff hc hr hl]
    simp only [phaseOutcome, hc, hr, if_pos hl, h]
    exact ⟨fun terms => if_pos terms, fun terms => if_neg terms⟩
  · exact ⟨fun moves => absurd moves stands, fun _ => outcome⟩

/-- What a phase test makes of a record it keeps. -/
theorem phaseOutcome_eq_some {s : State} {p q : PromptRecord} (h : phaseOutcome s.cfg s.cars p = some q) :
    q = { p with phase := q.phase }
      ∧ (p.phase = .waiting → (q.phase = .boarding ↔ boardsNow s p.car p.deck))
      ∧ (p.phase = .boarding → q.phase = .boarding ∧ ¬runsNow s p.car) := by
  cases hp : p.phase with
  | waiting =>
    obtain ⟨boards, stays⟩ := phaseOutcome_of_waiting (s := s) hp
    by_cases terms : boardsNow s p.car p.deck
    · obtain rfl := Option.some.inj ((boards terms).symm.trans h)
      exact ⟨rfl, fun _ => iff_of_true rfl terms, nofun⟩
    · obtain rfl := Option.some.inj ((stays terms).symm.trans h)
      exact ⟨rfl, fun _ => iff_of_false (by simp [hp]) terms, nofun⟩
  | boarding =>
    obtain ⟨retired, stays⟩ := phaseOutcome_of_boarding (s := s) hp
    by_cases terms : runsNow s p.car
    · simp [retired terms] at h
    · obtain rfl := Option.some.inj ((stays terms).symm.trans h)
      exact ⟨rfl, nofun, fun _ => ⟨hp, terms⟩⟩

/-- A record is retired only from boarding, by its car running. -/
theorem phaseOutcome_isSome {s : State} {p : PromptRecord} (h : ¬(p.phase = .boarding ∧ runsNow s p.car)) :
    ∃ q, phaseOutcome s.cfg s.cars p = some q := by
  cases hp : p.phase with
  | waiting =>
    obtain ⟨boards, stays⟩ := phaseOutcome_of_waiting (s := s) hp
    by_cases terms : boardsNow s p.car p.deck
    · exact ⟨_, boards terms⟩
    · exact ⟨_, stays terms⟩
  | boarding => exact ⟨_, (phaseOutcome_of_boarding hp).2 fun moves => h ⟨hp, moves⟩⟩

/-- The records after the phase tests of every assignment. -/
theorem mem_phaseTests_all {s : State} {q : PromptRecord} :
    q ∈ (phaseTests (fun _ => true) s).prompts ↔ ∃ p ∈ s.prompts, phaseOutcome s.cfg s.cars p = some q := by
  simp only [phaseTests, if_true, List.mem_filterMap]

/-! ### What the standing conditions leave -/

/-- While no drain ends, the standing conditions write the line, the FIFO, status, the records, the claim holdoff and
the regions alone. -/
theorem frame_of_settles {e t : State} (h : settles e t) (hd : drainHolds e) :
    t.now = e.now ∧ t.rx = e.rx ∧ t.cars = e.cars ∧ t.lanterns = e.lanterns ∧ t.keypad = e.keypad
      ∧ t.entry = e.entry ∧ t.requests = e.requests ∧ t.releases = e.releases ∧ t.notices = e.notices
      ∧ t.recallLatch = e.recallLatch ∧ t.power = e.power := by
  obtain ⟨frame, -⟩ := h
  rw [drainTest_holds hd] at frame
  rw [frame]
  exact ⟨rfl, rfl, rfl, rfl, rfl, rfl, rfl, rfl, rfl, rfl, rfl⟩

/-- Of a record, the standing conditions write the holdoff and the mark at most. -/
theorem recordFollows_eq {s : State} {p q : PromptRecord} (h : recordFollows s p q) :
    q = { p with holdoff := q.holdoff, takeQueued := q.takeQueued } := by
  rcases h with rfl | ⟨-, -, -, -, _, rfl⟩ | ⟨-, rfl | ⟨-, -, -, -, _, rfl⟩⟩ <;> rfl

/-- Every record that follows comes from one, and every record has one that follows. -/
theorem recordsFollow_mem {s : State} {ps qs : List PromptRecord} (h : recordsFollow s ps qs) :
    (∀ q ∈ qs, ∃ p ∈ ps, recordFollows s p q) ∧ ∀ p ∈ ps, ∃ q ∈ qs, recordFollows s p q := by
  induction ps generalizing qs with
  | nil =>
    cases qs with
    | nil => simp
    | cons q qs => exact h.elim
  | cons p ps ih =>
    cases qs with
    | nil => exact h.elim
    | cons q qs =>
      obtain ⟨first, later⟩ := h
      obtain ⟨back, on⟩ := ih later
      constructor
      · exact List.forall_mem_cons.2 ⟨⟨p, List.mem_cons_self, first⟩,
          fun x hx => (back x hx).imp fun _ ⟨hy, hf⟩ => ⟨List.mem_cons_of_mem _ hy, hf⟩⟩
      · exact List.forall_mem_cons.2 ⟨⟨q, List.mem_cons_self, first⟩,
          fun x hx => (on x hx).imp fun _ ⟨hy, hf⟩ => ⟨List.mem_cons_of_mem _ hy, hf⟩⟩

/-! ### The tracking instant (R49) -/

/-- Every LIVE record evaluated, and every lantern of its car tested against it, one by one in the entries' order. -/
def tracked (s : State) : State :=
  let cars := s.cars.map (trackRecord s.cfg s.now)
  { s with
    cars := cars
    lanterns := s.lanterns.map fun l => (liveTest s cars s.chime l).1
    chime := s.lanterns.foldl (fun q l => (liveTest s cars q l).2) s.chime }

@[simp] theorem trackRecord_key (cfg : Settings) (now : Nat) (c : CarRecord) :
    (trackRecord cfg now c).key = c.key := by
  unfold trackRecord
  split
  · exact evaluate_key ..
  · rfl

@[simp] theorem trackRecord_freshness (cfg : Settings) (now : Nat) (c : CarRecord) :
    (trackRecord cfg now c).freshness = c.freshness := by
  unfold trackRecord
  split
  · exact evaluate_freshness ..
  · rfl

/-- The tracking of the records makes none of them LIVE, and none of another car. -/
theorem isLive_trackRecord (cfg : Settings) (now : Nat) (cars : List CarRecord) :
    isLive (cars.map (trackRecord cfg now)) = isLive cars := by
  funext k
  simp only [isLive, List.any_map, Function.comp_def, trackRecord_key, trackRecord_freshness]

theorem keys_trackRecord (cfg : Settings) (now : Nat) (cars : List CarRecord) :
    (cars.map (trackRecord cfg now)).map CarRecord.key = cars.map CarRecord.key := by
  simp only [List.map_map, Function.comp_def, trackRecord_key]

/-- The effect of a tracking instant in closed form. -/
theorem trackAll_eq {s : State} (hn : (s.cars.map CarRecord.key).Nodup) :
    trackAll s = phaseTests (fun _ => true) (tracked s) := by
  have hn' : ((s.cars.map (trackRecord s.cfg s.now)).map CarRecord.key).Nodup := by rwa [keys_trackRecord]
  simp only [trackAll, testLanterns, ← isLive_trackRecord s.cfg s.now s.cars,
    testLanternList_live hn' s s.chime]
  rfl

theorem exec_trackingInstant {s : State} (hnow : s.now % 10 = 0) (hs : serving s = true)
    (hn : (s.cars.map CarRecord.key).Nodup) :
    exec .trackingInstant s = .next (settle (phaseTests (fun _ => true) (tracked s))) := by
  rw [← trackAll_eq hn]
  exact congrArg Host.Outcome.next (if_pos ⟨hnow, hs⟩)

/-- The records at the end of a tracking instant: each comes from one of before, with the phase that its test
gave. -/
theorem prompts_after_phaseTests {e t : State} (h : settles (phaseTests (fun _ => true) e) t)
    (hd : drainHolds (phaseTests (fun _ => true) e)) :
    (∀ q ∈ t.prompts, ∃ p ∈ e.prompts, ∃ p', phaseOutcome e.cfg e.cars p = some p'
        ∧ q = { p' with holdoff := q.holdoff, takeQueued := q.takeQueued })
      ∧ ∀ p ∈ e.prompts, ¬(p.phase = .boarding ∧ runsNow e p.car) →
          p.key ∈ t.prompts.map PromptRecord.key := by
  obtain ⟨-, follows, -⟩ := h
  rw [drainTest_holds hd] at follows
  obtain ⟨back, on⟩ := recordsFollow_mem follows
  refine ⟨fun q hq => ?_, fun p hp stays => ?_⟩
  · obtain ⟨p', hp', hf⟩ := back q hq
    obtain ⟨p, hp, outcome⟩ := mem_phaseTests_all.1 hp'
    exact ⟨p, hp, p', outcome, recordFollows_eq hf⟩
  · obtain ⟨p', outcome⟩ := phaseOutcome_isSome stays
    obtain ⟨q, hq, hf⟩ := on p' (mem_phaseTests_all.2 ⟨p, hp, outcome⟩)
    have key : q.key = p.key := by rw [recordFollows_eq hf, (phaseOutcome_eq_some outcome).1]
    exact key ▸ List.mem_map_of_mem hq

/-- Settles O33: the effect in closed form, its frame by what the standing conditions leave, and the records by what
the phase tests make of each. -/
theorem trackingInstantEvaluatesLiveRecords : Obligations.TrackingInstantEvaluatesLiveRecords := by
  intro s hnow hs hn cars liveOf test
  have settled := settle_settles (phaseTests (fun _ => true) (tracked s))
  refine ⟨_, exec_trackingInstant hnow hs hn, settled, fun holds => ?_⟩
  replace holds : drainHolds (phaseTests (fun _ => true) (tracked s)) := holds
  obtain ⟨now, rx, cars', lanterns, keypad, entry, requests, releases, notices, latch, power⟩ :=
    frame_of_settles settled holds
  obtain ⟨origin, kept⟩ := prompts_after_phaseTests settled holds
  have flags := flags_eq_of_settles settled
  refine ⟨cars', lanterns, now, rx, requests, releases, flags, power, latch, notices, entry,
    keypad, fun q hq => ?_, kept⟩
  obtain ⟨p, hp, p', outcome, followed⟩ := origin q hq
  obtain ⟨same, waits, boards⟩ := phaseOutcome_eq_some outcome
  rw [same] at followed
  rw [followed]
  exact ⟨p, hp, rfl, rfl, rfl, rfl, rfl, rfl, rfl, waits, boards⟩

end Sys2Proof.PositionTracking
end

section
/-! PROOF. The arrival lanterns and the chime (chapter 5): one test of a lantern, a chime request, and the player's
deadlines. -/

namespace Sys2Proof.LanternsAndChime

open Sys2Proof.Machine Sys2Proof.Safety Sys2Proof.Laws

/-! ### Chime requests (R80) -/

/-- An entry of the lantern waits in the queue. -/
theorem any_output_iff (e : ChimeEntry) (queue : List ChimeEntry) :
    (queue.any fun q => q.output == e.output) = true ↔ e.output ∈ queue.map ChimeEntry.output := by
  simp

/-- A request for a lantern that plays or waits, or at a full queue, is dropped. -/
theorem requestChime_of_dropped {now : Nat} {e : ChimeEntry} {q : Chime}
    (h : playing q.player = some e.output ∨ e.output ∈ q.queue.map ChimeEntry.output ∨ 4 ≤ q.queue.length) :
    requestChime now e q = q := by
  rw [← any_output_iff] at h
  exact if_pos h

/-- Any other request joins the tail, and an IDLE player takes the head. -/
theorem requestChime_of_joins {now : Nat} {e : ChimeEntry} {q : Chime} (hp : playing q.player ≠ some e.output)
    (hq : e.output ∉ q.queue.map ChimeEntry.output) (hl : q.queue.length < 4) :
    requestChime now e q =
      if q.player = .idle then takeChime now (q.queue ++ [e]) else { q with queue := q.queue ++ [e] } := by
  rw [← any_output_iff] at hq
  unfold requestChime
  rw [if_neg (by simp only [not_or, Nat.not_le]; exact ⟨hp, hq, hl⟩)]
  cases q.player <;> rfl

/-! ### The player's deadlines (R81) -/

theorem afterTone_of_tone {now left ends : Nat} {e : ChimeEntry} {q : Chime} (h : q.player = .tone e left ends)
    (he : ends ≤ now) : afterTone now q = { q with player := .gap e left (now + 200) } := by
  simp only [afterTone, h, if_pos he]

theorem afterGap_of_last {now ends : Nat} {e : ChimeEntry} {q : Chime} (h : q.player = .gap e 0 ends)
    (he : ends ≤ now) : afterGap now q = { q with player := .spacing (now + 400) } := by
  simp only [afterGap, h, if_pos he]

theorem afterGap_of_left {now n ends : Nat} {e : ChimeEntry} {q : Chime} (h : q.player = .gap e (n + 1) ends)
    (he : ends ≤ now) : afterGap now q = { q with player := .tone e n (now + 300) } := by
  simp only [afterGap, h, if_pos he]

theorem afterSpacing_of_spacing {now ends : Nat} {q : Chime} (h : q.player = .spacing ends) (he : ends ≤ now) :
    afterSpacing now q = takeChime now q.queue := by
  simp only [afterSpacing, h, if_pos he]

/-- Settles O39: a request is dropped or joins, and each deadline of the player leads to the one next part. -/
theorem chimeRequestsAndTimings : Obligations.ChimeRequestsAndTimings := by
  refine ⟨fun now e q => ⟨requestChime_of_dropped, fun hp hq hl => ⟨fun busy => ?_, fun idle empty => ?_⟩⟩,
    fun s e left ends hends => ⟨fun tone => ?_, fun gap => ?_, fun spacing => ?_⟩⟩
  · rw [requestChime_of_joins hp hq hl, if_neg busy]
  · rw [requestChime_of_joins hp hq hl, if_pos idle, empty]
    rfl
  · rw [← afterTone_of_tone tone hends]
    exact ⟨_, rfl, settle_settles _⟩
  · refine ⟨_, rfl, fun last => ?_, fun n more => ?_⟩
    · subst last
      rw [← afterGap_of_last gap hends]
      exact settle_settles _
    · subst more
      rw [← afterGap_of_left gap hends]
      exact settle_settles _
  · refine ⟨_, rfl, fun empty => ?_, fun h q waits => ?_⟩
    · rw [afterSpacing_of_spacing spacing hends, empty]
      exact settle_settles _
    · rw [afterSpacing_of_spacing spacing hends, waits]
      exact settle_settles _

/-! ### What a lantern test asks of a record (R73, R74, R77) -/

section
variable {cfg : Settings} {mode : PowerMode} {e : LanternEntry} {c : CarRecord} {r : Report}

theorem levelOf_eq (cfg : Settings) (f : Nat) :
    levelOf cfg f = ((cfg.floors[f]?).map fun z => (z.level : Int)).getD 0 := by
  unfold levelOf
  cases cfg.floors[f]? <;> rfl

theorem movesToward_iff (m : Motion) (x target : Int) :
    movesToward m x target = true ↔ (m = .runUp ∧ x ≤ target) ∨ (m = .runDown ∧ target ≤ x) ∨ m = .levelling := by
  cases m <;> simp [movesToward]

theorem approaches_iff :
    approaches cfg e c r = true ↔
      forDeck cfg r.deckCount e.deck r.nextStop = some e.landing
        ∧ ∃ x, c.estimate = some x ∧ movesToward r.motion x (targetLevel cfg e) = true
          ∧ (targetLevel cfg e - x).natAbs ≤ cfg.lanternLead := by
  unfold approaches
  cases c.estimate <;> simp [and_assoc]

theorem standsAt_iff :
    standsAt cfg e c r = true ↔
      (r.motion = .parked ∨ r.motion = .levelling) ∧ deckFloor cfg c e.deck = some e.landing
        ∧ doorOpens r.door = true := by
  simp [standsAt, standsStill, and_assoc]

theorem lights_iff (h : c.report = some r) :
    lights cfg mode e c = true ↔
      c.freshness = .live ∧ r.service = .normal ∧ mode ≠ .dormant ∧ r.committed = some e.direction
        ∧ (approaches cfg e c r = true ∨ standsAt cfg e c r = true) := by
  simp [lights, h, and_assoc]

theorem darkens_iff {l : Lantern} (h : c.report = some r) :
    darkens cfg l c = true ↔
      (r.door = .closed ∧ l.doorSeen = true) ∨ c.freshness ≠ .live ∨ r.service ≠ .normal
        ∨ r.committed ≠ some l.entry.direction
        ∨ (forDeck cfg r.deckCount l.entry.deck r.nextStop ≠ some l.entry.landing
          ∧ deckFloor cfg c l.entry.deck ≠ some l.entry.landing) := by
  simp [darkens, h, or_assoc]

theorem doorSeenNow_of_live (h : c.report = some r) (hl : c.freshness = .live) : doorSeenNow c = doorOpens r.door := by
  simp [doorSeenNow, h, hl]

end

/-! ### One test of one lantern (R74 to R77) -/

section
variable {cfg : Settings} {mode : PowerMode} {now : Nat} {c : CarRecord} {q : Chime} {l : Lantern}

theorem testLantern_of_dark (h : l.lit = false) :
    testLantern cfg mode now c q l =
      if lights cfg mode l.entry c = true then
        ({ l with lit := true, doorSeen := doorSeenNow c },
          requestChime now { output := l.entry.output, strokes := strokesOf l.entry.direction } q)
      else (l, q) := by
  simp only [testLantern, h, Bool.false_eq_true, if_false]

theorem testLantern_of_lit (h : l.lit = true) :
    testLantern cfg mode now c q l =
      if darkens cfg l c = true then ({ l with lit := false, doorSeen := false }, dropChime l.entry.output q)
      else ({ l with doorSeen := l.doorSeen || doorSeenNow c }, q) := by
  simp only [testLantern, h, if_true]

theorem lit_testLantern_of_dark (h : l.lit = false) :
    (testLantern cfg mode now c q l).1.lit = true ↔ lights cfg mode l.entry c = true := by
  rw [testLantern_of_dark h]
  split <;> simp [*]

theorem dark_testLantern_of_lit (h : l.lit = true) :
    (testLantern cfg mode now c q l).1.lit = false ↔ darkens cfg l c = true := by
  rw [testLantern_of_lit h]
  split <;> simp [*]

end

/-- Settles O38: the test of R72 in its four outcomes, its conditions by `lights_iff` and `darkens_iff`. -/
theorem lanternTestsFollowTheirConditions : Obligations.LanternTestsFollowTheirConditions := by
  intro cfg mode now c r q l hr onDeck stop floor level target toward doorOpen res
  have onDeck_eq : ∀ f, onDeck f = forDeck cfg r.deckCount l.entry.deck f := by
    intro f
    unfold onDeck forDeck
    cases l.entry.deck <;> cases f <;> rfl
  have stop_eq : stop = forDeck cfg r.deckCount l.entry.deck r.nextStop := onDeck_eq _
  have floor_eq : floor = deckFloor cfg c l.entry.deck := by
    rw [deckFloor, hr]
    exact onDeck_eq _
  have target_eq : target = targetLevel cfg l.entry := by
    unfold target targetLevel
    cases l.entry.deck <;> exact (levelOf_eq ..).symm
  have toward_iff : ∀ x, toward x ↔ movesToward r.motion x target = true := fun x => (movesToward_iff ..).symm
  have door_eq : doorOpen = doorOpens r.door := rfl
  refine ⟨fun dark => ?_, fun lit => ?_⟩
  · have lights_now : res.1.lit = true ↔ lights cfg mode l.entry c = true := lit_testLantern_of_dark dark
    have result := testLantern_of_dark (cfg := cfg) (mode := mode) (now := now) (c := c) (q := q) dark
    refine ⟨?_, fun on => ?_, fun off => ?_⟩
    · rw [lights_now, lights_iff hr, approaches_iff, standsAt_iff, stop_eq, floor_eq, door_eq]
      simp only [toward_iff, target_eq]
    · have terms := lights_now.1 on
      have live : c.freshness = .live := ((lights_iff hr).1 terms).1
      rw [if_pos terms, doorSeenNow_of_live hr live] at result
      exact ⟨congrArg Prod.fst result, congrArg Prod.snd result⟩
    · have terms : ¬lights cfg mode l.entry c = true := by rw [← lights_now, off]; decide
      rw [if_neg terms] at result
      exact result
  · have darkens_now : res.1.lit = false ↔ darkens cfg l c = true := dark_testLantern_of_lit lit
    have result := testLantern_of_lit (cfg := cfg) (mode := mode) (now := now) (c := c) (q := q) lit
    refine ⟨?_, fun off => ?_, fun on => ?_⟩
    · rw [darkens_now, darkens_iff hr, stop_eq, floor_eq]
    · rw [if_pos (darkens_now.1 off)] at result
      exact ⟨congrArg Prod.fst result, congrArg Prod.snd result⟩
    · have terms : ¬darkens cfg l c = true := by rw [← darkens_now, on]; decide
      have live : c.freshness = .live := by
        rw [darkens_iff hr] at terms
        exact Classical.not_not.1 fun gone => terms (.inr (.inl gone))
      rw [if_neg terms, doorSeenNow_of_live hr live] at result
      exact result

end Sys2Proof.LanternsAndChime
end

section
/-! PROOF. The chime and the notice store, for every command that is not about them: it leaves both as they were, or
silences the one at an entry into DORMANT and clears both in a reset. -/

namespace Sys2Proof.StoreFrames

open Sys2Proof.Machine Sys2Proof.Safety Sys2Proof.Laws

/-! ### Operations that leave both as they were -/

section
variable (s : State)

/-! #### Start-up and status -/

@[simp] theorem holdInReset_stores :
    (holdInReset s).chime = s.chime ∧ (holdInReset s).notices = s.notices := by
  unfold holdInReset; split <;> simp

@[simp] theorem decideConfig_stores (memory : List Byte) :
    (decideConfig memory s).chime = s.chime ∧ (decideConfig memory s).notices = s.notices := by
  unfold decideConfig; split <;> simp

@[simp] theorem startupAlerts_stores :
    (startupAlerts s).chime = s.chime ∧ (startupAlerts s).notices = s.notices := by
  unfold startupAlerts
  induction allFlags generalizing s with
  | nil => simp
  | cons f fs ih =>
    rw [List.foldl_cons, (ih _).1, (ih _).2]
    split <;> simp

theorem takeUpRunning_stores :
    (takeUpRunning s).chime = silentChime ∧ (takeUpRunning s).notices = s.notices := by
  unfold takeUpRunning; dsimp only; split <;> simp

@[simp] theorem answerStatus_stores :
    (answerStatus s).chime = s.chime ∧ (answerStatus s).notices = s.notices := by
  unfold answerStatus; split
  · simp
  · split <;> simp

/-! #### The fixture line -/

@[simp] theorem arrive_stores (e : RxEntry) :
    (arrive e s).chime = s.chime ∧ (arrive e s).notices = s.notices := by
  unfold arrive; dsimp only; (repeat' split) <;> simp

@[simp] theorem receive_stores (f : Frame) :
    (receive f s).chime = s.chime ∧ (receive f s).notices = s.notices := by
  unfold receive; split
  · simp
  · split <;> simp

@[simp] theorem dropUnsent_stores (q : List ShowItem) :
    (dropUnsent q s).chime = s.chime ∧ (dropUnsent q s).notices = s.notices := by
  induction q generalizing s with
  | nil => simp [dropUnsent]
  | cons i q ih => unfold dropUnsent; split <;> simp [ih]

@[simp] theorem offerOf_stores (c : TxClass) :
    (offerOf c s).1.chime = s.chime ∧ (offerOf c s).1.notices = s.notices := by
  cases c <;> simp only [offerOf] <;> split <;> simp

@[simp] theorem selectOffer_stores (cs : List TxClass) :
    (selectOffer cs s).1.chime = s.chime ∧ (selectOffer cs s).1.notices = s.notices := by
  induction cs generalizing s with
  | nil => simp [selectOffer]
  | cons c cs ih =>
    have offered := offerOf_stores s c
    unfold selectOffer
    split <;> rename_i h <;> rw [h] at offered
    · exact offered
    · rw [(ih _).1, (ih _).2]
      exact offered

@[simp] theorem startSending_stores (item : TxItem) (frame : Frame) :
    (startSending item frame s).chime = s.chime ∧ (startSending item frame s).notices = s.notices := by
  cases item <;> simp [startSending]

@[simp] theorem launch_stores : (launch s).chime = s.chime ∧ (launch s).notices = s.notices := by
  have selected := selectOffer_stores s (cycleFrom s.pointer)
  unfold launch
  split <;> rename_i h <;> rw [h] at selected
  · rw [(startSending_stores ..).1, (startSending_stores ..).2]
    exact selected
  · exact selected

@[simp] theorem cutShort_stores : (cutShort s).chime = s.chime ∧ (cutShort s).notices = s.notices := by
  unfold cutShort; split <;> simp

@[simp] theorem beginReceiving_stores :
    (beginReceiving s).chime = s.chime ∧ (beginReceiving s).notices = s.notices := by
  unfold beginReceiving; split <;> simp

@[simp] theorem addressIsLower_stores (a : Nat) :
    (addressIsLower a s).2.chime = s.chime ∧ (addressIsLower a s).2.notices = s.notices := by
  unfold addressIsLower; (repeat' split) <;> simp

@[simp] theorem wonWhileDraining_stores (k : AssignKey) :
    (wonWhileDraining k s).chime = s.chime ∧ (wonWhileDraining k s).notices = s.notices := by
  simp [wonWhileDraining]

@[simp] theorem claimHolds_stores (k : AssignKey) :
    (claimHolds k s).chime = s.chime ∧ (claimHolds k s).notices = s.notices := by
  unfold claimHolds; split <;> simp

@[simp] theorem takeWon_stores (k : AssignKey) :
    (takeWon k s).chime = s.chime ∧ (takeWon k s).notices = s.notices := by
  unfold takeWon; dsimp only; split
  · simp
  · split
    · simp
    · (repeat' split) <;> simp
    · simp
    · simp
    · simp

@[simp] theorem showWon_stores (act : ShowAct) (k : AssignKey) :
    (showWon act k s).chime = s.chime ∧ (showWon act k s).notices = s.notices := by
  unfold showWon; dsimp only; split
  · cases act <;> simp
  · simp

@[simp] theorem attemptWon_stores (a : Attempt) :
    (attemptWon a s).chime = s.chime ∧ (attemptWon a s).notices = s.notices := by
  unfold attemptWon wonByOwner; cases a.item <;> simp

@[simp] theorem attemptLost_stores :
    (attemptLost s).chime = s.chime ∧ (attemptLost s).notices = s.notices := by
  simp [attemptLost]

@[simp] theorem attemptFault_stores :
    (attemptFault s).chime = s.chime ∧ (attemptFault s).notices = s.notices := by
  unfold attemptFault; dsimp only; split <;> simp

/-! #### The prompt table -/

@[simp] theorem joinPrompt_stores (p : PromptRecord) :
    (joinPrompt p s).chime = s.chime ∧ (joinPrompt p s).notices = s.notices := by
  unfold joinPrompt; split
  · simp
  · split <;> simp

@[simp] theorem handOver_stores (a : AssignFields) :
    (handOver a s).chime = s.chime ∧ (handOver a s).notices = s.notices := by
  unfold handOver; dsimp only; split <;> simp

@[simp] theorem notAnswer_stores (a : AssignFields) :
    (notAnswer a s).chime = s.chime ∧ (notAnswer a s).notices = s.notices := by
  unfold notAnswer; split
  · split
    · (repeat' split) <;> simp
    · simp
  · simp

@[simp] theorem boardSide_stores (a : AssignFields) :
    (boardSide a s).chime = s.chime ∧ (boardSide a s).notices = s.notices := by
  unfold boardSide; split
  · split
    · simp
    · dsimp only; (repeat' split) <;> simp
  · simp

@[simp] theorem promptTableAssign_stores (answer : Bool) (a : AssignFields) :
    (promptTableAssign answer a s).chime = s.chime ∧ (promptTableAssign answer a s).notices = s.notices := by
  unfold promptTableAssign; split
  · cases answer <;> simp
  · simp
  · simp

@[simp] theorem answerRequest_stores (a : AssignFields) :
    (answerRequest a s).chime = s.chime ∧ (answerRequest a s).notices = s.notices := by
  simp [answerRequest]

@[simp] theorem assignTaken_stores (a : AssignFields) :
    (assignTaken a s).chime = s.chime ∧ (assignTaken a s).notices = s.notices := by
  unfold assignTaken; dsimp only; (repeat' split) <;> simp

@[simp] theorem assignEntry_stores (e : RxEntry) :
    (assignEntry e s).chime = s.chime ∧ (assignEntry e s).notices = s.notices := by
  unfold assignEntry; split <;> simp

@[simp] theorem peerTake_stores (peer : Nat) (k : AssignKey) :
    (peerTake peer k s).chime = s.chime ∧ (peerTake peer k s).notices = s.notices := by
  unfold peerTake; split
  · simp
  · split
    · simp
    · split
      · simp
      · simp
      · dsimp only; (repeat' split) <;> simp [yieldOwned, reassertOwned]
      · simp

@[simp] theorem showTaken_stores (e : RxEntry) :
    (showTaken e s).chime = s.chime ∧ (showTaken e s).notices = s.notices := by
  unfold showTaken; split
  · split <;> simp
  · simp

@[simp] theorem giveUp_stores (r : Request) :
    (giveUp r s).chime = s.chime ∧ (giveUp r s).notices = s.notices := by
  simp [giveUp]

/-! #### The keypad and the entry -/

@[simp] theorem unlockTest_stores :
    (unlockTest s).chime = s.chime ∧ (unlockTest s).notices = s.notices := by
  unfold unlockTest; split <;> simp

@[simp] theorem makeRequest_stores (dest : Nat) (cls : ReqClass) :
    (makeRequest dest cls s).chime = s.chime ∧ (makeRequest dest cls s).notices = s.notices := by
  unfold makeRequest; (repeat' split) <;> simp

@[simp] theorem resolveEntry_stores :
    (resolveEntry s).chime = s.chime ∧ (resolveEntry s).notices = s.notices := by
  unfold resolveEntry; dsimp only; split
  · simp
  · (repeat' split) <;> simp

@[simp] theorem entryKey_stores (k : Key) :
    (entryKey k s).chime = s.chime ∧ (entryKey k s).notices = s.notices := by
  unfold entryKey; dsimp only; split
  · simp
  · simp
  · (repeat' split) <;> simp
  · split <;> simp

@[simp] theorem takeKey_stores (k : Key) :
    (takeKey k s).chime = s.chime ∧ (takeKey k s).notices = s.notices := by
  unfold takeKey; split
  · simp
  · dsimp only; split <;> simp
  · split
    · simp
    · dsimp only; split <;> simp

@[simp] theorem keysDown_stores (keys : List Key) :
    (keysDown keys s).chime = s.chime ∧ (keysDown keys s).notices = s.notices := by
  unfold keysDown; dsimp only; split
  · simp
  · (repeat' split) <;> simp
  · simp

@[simp] theorem keyGoesUp_stores (k : Key) :
    (keyGoesUp k s).chime = s.chime ∧ (keyGoesUp k s).notices = s.notices := by
  simp [keyGoesUp]

@[simp] theorem keySticks_stores (k : Key) :
    (keySticks k s).chime = s.chime ∧ (keySticks k s).notices = s.notices := by
  unfold keySticks; split <;> simp

/-! #### The recall latch and the power states -/

@[simp] theorem latchSet_stores : (latchSet s).chime = s.chime ∧ (latchSet s).notices = s.notices := by
  unfold latchSet; split <;> simp

@[simp] theorem latchClear_stores : (latchClear s).chime = s.chime ∧ (latchClear s).notices = s.notices := by
  unfold latchClear; dsimp only; (repeat' split) <;> simp

@[simp] theorem recallTaken_stores (e : RxEntry) :
    (recallTaken e s).chime = s.chime ∧ (recallTaken e s).notices = s.notices := by
  unfold recallTaken; dsimp only; split <;> simp

@[simp] theorem recallEndTaken_stores (e : RxEntry) :
    (recallEndTaken e s).chime = s.chime ∧ (recallEndTaken e s).notices = s.notices := by
  unfold recallEndTaken; split
  · simp
  · split <;> simp
  · simp

@[simp] theorem nightTaken_stores (e : RxEntry) :
    (nightTaken e s).chime = s.chime ∧ (nightTaken e s).notices = s.notices := by
  unfold nightTaken; split
  · split <;> simp
  · simp
  · simp
  · simp

@[simp] theorem dayTaken_stores (e : RxEntry) :
    (dayTaken e s).chime = s.chime ∧ (dayTaken e s).notices = s.notices := by
  unfold dayTaken; split
  · split <;> simp
  · simp
  · simp
  · simp

@[simp] theorem keyMoveActs_stores (p : KeyPosition) :
    (keyMoveActs p s).chime = s.chime ∧ (keyMoveActs p s).notices = s.notices := by
  cases p <;> simp [keyMoveActs]

@[simp] theorem wakeTaken_stores (e : RxEntry) :
    (wakeTaken e s).chime = s.chime ∧ (wakeTaken e s).notices = s.notices := by
  unfold wakeTaken; split <;> simp

end

/-! ### What a command does with both -/

/-- The chime is as it was or silent, and the notice store is as it was or empty. -/
def Quiet (s t : State) : Prop :=
  (t.chime = s.chime ∨ t.chime = silentChime) ∧ (t.notices = s.notices ∨ t.notices = State.reset.notices)

theorem Quiet.of_stores {s t : State} (h : t.chime = s.chime ∧ t.notices = s.notices) : Quiet s t :=
  ⟨.inl h.1, .inl h.2⟩

theorem Quiet.refl (s : State) : Quiet s s := .of_stores ⟨rfl, rfl⟩

theorem Quiet.trans {s t u : State} (h : Quiet s t) (h' : Quiet t u) : Quiet s u := by
  obtain ⟨chime, notices⟩ := h
  obtain ⟨chime', notices'⟩ := h'
  exact ⟨chime'.elim (fun e => e ▸ chime) .inr, notices'.elim (fun e => e ▸ notices) .inr⟩

/-- An effect, or none: the two arms of a command whose event may not occur in the state. -/
theorem Quiet.ite {s t u : State} {p : Prop} [Decidable p] (ht : Quiet s t) (hu : Quiet s u) :
    Quiet s (if p then t else u) := by
  split
  · exact ht
  · exact hu

/-- The standing conditions silence the chime at most, where they end a drain (R175, R176). -/
theorem quiet_settle (s : State) : Quiet s (settle s) := by
  have chime : (settle s).chime = (drainTest s).chime := by rw [(settle_settles s).1]
  have notices : (settle s).notices = s.notices := by rw [(settle_settles s).1, drainTest_notices]
  refine ⟨?_, .inl notices⟩
  rw [chime, drainTest]
  split
  · exact .inr rfl
  · exact .inl rfl

/-- An effect that leaves both, and the standing conditions. -/
theorem quiet_settle_of_stores {s e : State} (h : e.chime = s.chime ∧ e.notices = s.notices) :
    Quiet s (settle e) := (Quiet.of_stores h).trans (quiet_settle e)

/-- What every part of a take keeps, the take keeps. -/
theorem takeHead_keeps {P : State → Prop} (settled : ∀ s, P s → P (settle s))
    (received : ∀ s q, P s → P { s with rx := q }) {act : RxEntry → State → State}
    (acts : ∀ e s, P s → P (act e s)) (fits : RxEntry → Bool) {s : State} (h : P s) : P (takeHead fits act s) := by
  unfold takeHead
  split
  · split
    · exact h
    · split
      · refine settled _ ?_
        split
        · exact received _ _ h
        · exact acts _ _ (received _ _ h)
      · exact h
  · exact h

/-- A notice whose kind names none sets a flag alone. -/
theorem noticeTaken_keeps {P : State → Prop} (flagged : ∀ s, P s → P (setFlag .lineCheckError s))
    {act : RxEntry → State → State} (acts : ∀ e s, P s → P (act e s)) (e : RxEntry) (s : State) (h : P s) :
    P (noticeTaken act e s) := by
  unfold noticeTaken
  split
  · exact flagged s h
  · exact acts e s h

theorem quiet_takeHead {act : RxEntry → State → State} (acts : ∀ e s, Quiet s (act e s)) (fits : RxEntry → Bool)
    (s : State) : Quiet s (takeHead fits act s) :=
  takeHead_keeps (P := Quiet s) (fun t h => h.trans (quiet_settle t)) (fun _ _ h => h)
    (fun e t h => h.trans (acts e t)) fits (.refl s)

theorem quiet_notice {act : RxEntry → State → State}
    (acts : ∀ e s, (act e s).chime = s.chime ∧ (act e s).notices = s.notices) (k : NoticeKind) (s : State) :
    Quiet s (takeHead (fitsNotice k) (noticeTaken act) s) :=
  quiet_takeHead (fun e s => noticeTaken_keeps (P := Quiet s) (fun t h => h.trans (.of_stores (by simp)))
    (fun e t h => h.trans (.of_stores (acts e t))) e s (.refl s)) _ s

/-! ### Resets and start-up -/

theorem quiet_resetStation (s t : State) : Quiet s (resetStation t) := ⟨.inr rfl, .inr rfl⟩

theorem quiet_beginRunning (tx : TxState) (s : State) : Quiet s (beginRunning tx s) := by
  refine Quiet.trans (.trans ?_ (.of_stores (startupAlerts_stores _))) (quiet_settle _)
  split
  · exact .of_stores ⟨rfl, rfl⟩
  · exact ⟨.inr (takeUpRunning_stores _).1, .inl (takeUpRunning_stores _).2⟩

theorem quiet_loadingEnd (memory : List Byte) (s : State) :
    Quiet s
      (let decided := decideConfig memory s
      if decided.start.address = 0 then beginRunning .off decided else beginSelfCheck decided) := by
  have decided : Quiet s (decideConfig memory s) := .of_stores (decideConfig_stores s memory)
  exact .ite (decided.trans (quiet_beginRunning ..)) (decided.trans (.of_stores ⟨rfl, rfl⟩))

theorem quiet_queryTaken (e : RxEntry) (s : State) : Quiet s (queryTaken e s) := by
  unfold queryTaken
  refine Quiet.ite (.refl s) ?_
  split
  · exact .of_stores (by simp)
  · exact .of_stores (answerStatus_stores s)
  · exact Quiet.ite (quiet_resetStation s s) (.refl s)

/-! ### The commands -/

/-- The commands that are about the chime: they test lanterns, or move the player. -/
def soundsChime : Instr → Prop
  | .car | .trackingInstant | .staleDeadline _ | .lostDeadline _ | .chimeToneEnd | .chimeGapEnd
  | .chimeSpacingEnd => True
  | _ => False

/-- The commands that are about the notice store. -/
def writesNotices : Instr → Prop
  | .text | .textClear | .assemblyDeadline _ | .lifeDeadline _ => True
  | _ => False

theorem quiet_of_next {s e t : State} (h : (.next e : Host.Outcome State Fault Refusal) = .next t)
    (he : Quiet s e) : Quiet s t := Host.Outcome.next.inj h ▸ he

/-- A command that acts on a condition, on neither the chime nor the notice store. -/
theorem quiet_guarded {s e : State} {p : Prop} [Decidable p] (h : e.chime = s.chime ∧ e.notices = s.notices) :
    Quiet s (if p then settle e else s) := .ite (quiet_settle_of_stores h) (.refl s)

theorem quiet_selfCheckEnd {loop : LoopBack} {s t : State} (h : exec (.selfCheckEnd loop) s = .next t) :
    Quiet s t := by
  have flagged : Quiet s (setFlag .txMuted s) := .of_stores (by simp)
  refine quiet_of_next h (.ite ?_ (.refl s))
  cases loop with
  | everyBitEqual => exact quiet_beginRunning ..
  | _ => exact flagged.trans (quiet_beginRunning ..)

theorem quiet_lineIdle {s t : State} (h : exec .lineIdle s = .next t) : Quiet s t := by
  refine quiet_of_next h ?_
  split
  · exact .refl s
  · exact .refl s
  · exact quiet_settle_of_stores ⟨rfl, rfl⟩
  · exact .ite (.refl s) (.ite (quiet_settle_of_stores (by simp)) (quiet_settle_of_stores ⟨rfl, rfl⟩))

/-- The outcome of an attempt, where one is on the line. -/
theorem quiet_outcome {s : State} {f : Attempt → State}
    (h : ∀ a, (f a).chime = s.chime ∧ (f a).notices = s.notices) :
    ∀ o : Option Attempt, Quiet s (match o with | some a => settle (f a) | none => s)
  | some a => quiet_settle_of_stores (h a)
  | none => .refl s

theorem quiet_requestTimeout {tag : Nat} {s t : State} (h : exec (.requestTimeout tag) s = .next t) : Quiet s t := by
  refine quiet_of_next h ?_
  split
  · exact quiet_settle_of_stores (giveUp_stores ..)
  · exact .refl s

theorem quiet_drainDeadline {s t : State} (h : exec .drainDeadline s = .next t) : Quiet s t := by
  have dormant : Quiet s (dormantEntry s) := ⟨.inr rfl, .inl rfl⟩
  exact quiet_of_next h (.ite (dormant.trans (quiet_settle _)) (.refl s))

/-- Every other command leaves both, silences the chime, or clears both. -/
theorem quiet_exec {c : Instr} {s t : State} (h : exec c s = .next t) (hc : ¬soundsChime c)
    (hn : ¬writesNotices c) : Quiet s t := by
  cases c with
  | car | trackingInstant | staleDeadline | lostDeadline | chimeToneEnd | chimeGapEnd | chimeSpacingEnd =>
    exact absurd trivial hc
  | text | textClear | assemblyDeadline | lifeDeadline => exact absurd trivial hn
  | resetAsserted => exact quiet_of_next h (quiet_resetStation ..)
  | powerOnReset | pinReset => exact quiet_of_next h (.trans ⟨.inr rfl, .inr rfl⟩ (.of_stores (holdInReset_stores _)))
  | loadingEnd memory => exact quiet_of_next h (.ite (quiet_loadingEnd memory s) (.refl s))
  | selfCheckEnd => exact quiet_selfCheckEnd h
  | telegramReceived => exact quiet_of_next h (quiet_guarded (receive_stores ..))
  | lineIdle => exact quiet_lineIdle h
  | lineBusy =>
    exact quiet_of_next h
      (.ite (.ite (quiet_settle_of_stores (by simp)) (quiet_settle_of_stores (by simp))) (.refl s))
  | attemptWon => exact quiet_of_next h (quiet_outcome (attemptWon_stores s) _)
  | attemptLost => exact quiet_of_next h (quiet_outcome (fun _ => attemptLost_stores s) _)
  | attemptFault => exact quiet_of_next h (quiet_outcome (fun _ => attemptFault_stores s) _)
  | stops => exact quiet_of_next h (quiet_takeHead (act := stopsTaken) (fun _ _ => .of_stores ⟨rfl, rfl⟩) _ s)
  | assign => exact quiet_of_next h (quiet_takeHead (fun e s => .of_stores (assignEntry_stores s e)) _ s)
  | showTake | showRelease => exact quiet_of_next h (quiet_takeHead (fun e s => .of_stores (showTaken_stores s e)) _ s)
  | recallStart => exact quiet_of_next h (quiet_notice (fun e s => recallTaken_stores s e) _ s)
  | recallEnd => exact quiet_of_next h (quiet_notice (fun e s => recallEndTaken_stores s e) _ s)
  | night => exact quiet_of_next h (quiet_notice (fun e s => nightTaken_stores s e) _ s)
  | day => exact quiet_of_next h (quiet_notice (fun e s => dayTaken_stores s e) _ s)
  | wakeSleep | wakeWake => exact quiet_of_next h (quiet_takeHead (fun e s => .of_stores (wakeTaken_stores s e)) _ s)
  | queryStatus | queryRestart => exact quiet_of_next h (quiet_takeHead quiet_queryTaken _ s)
  | keyDown => exact quiet_of_next h (quiet_guarded (keysDown_stores ..))
  | keyUp => exact quiet_of_next h (quiet_guarded (keyGoesUp_stores ..))
  | keyStuck => exact quiet_of_next h (quiet_guarded (keySticks_stores ..))
  | requestTimeout => exact quiet_requestTimeout h
  | drainDeadline => exact quiet_drainDeadline h
  | recallKeyMove =>
    exact quiet_of_next h (.ite (.ite (quiet_settle_of_stores (keyMoveActs_stores ..)) (.of_stores ⟨rfl, rfl⟩)) (.refl s))
  | scrollDeadline => exact quiet_of_next h (.ite (.refl s) (quiet_settle_of_stores ⟨rfl, rfl⟩))
  | blinkPhaseChange => exact quiet_of_next h (.of_stores ⟨rfl, rfl⟩)
  | mutedDeadline | entryDeadline | promptDeadline | localDisplayDeadline | validityDeadline | holdoffDeadline
  | releaseDeadline | idleDeadline | alertHoldOffDeadline =>
    exact quiet_of_next h (quiet_guarded ⟨rfl, rfl⟩)

end Sys2Proof.StoreFrames
end

section
/-! PROOF. The chime queue and the text slots stay within their bounds in every step (R79, R135): a rule for each
operation on a chime and on a slot, then the commands that make them. -/

namespace Sys2Proof.StoreBounds

open Sys2Proof.Machine Sys2Proof.Safety Sys2Proof.Laws Sys2Proof.LanternsAndChime Sys2Proof.StoreFrames

/-! ### The chime queue (R79 to R82) -/

/-- The bounds of `chimeSafe`, of a chime by itself. -/
def chimeFits (q : Chime) : Prop :=
  q.queue.length ≤ 4 ∧ (q.queue.map ChimeEntry.output).Nodup
    ∧ (∀ o, playing q.player = some o → o ∉ q.queue.map ChimeEntry.output)
    ∧ ∀ e ∈ q.queue, e.strokes = 1 ∨ e.strokes = 2

theorem chimeSafe_iff (s : State) : chimeSafe s ↔ chimeFits s.chime := Iff.rfl

theorem chimeFits_silent : chimeFits silentChime := by
  simp [chimeFits, silentChime, playing]

/-- The head of a queue plays, and no other entry of its lantern waits (R81). -/
theorem chimeFits_takeChime {queue : List ChimeEntry} (hl : queue.length ≤ 4)
    (hn : (queue.map ChimeEntry.output).Nodup) (hs : ∀ e ∈ queue, e.strokes = 1 ∨ e.strokes = 2) (now : Nat) :
    chimeFits (takeChime now queue) := by
  cases queue with
  | nil => exact chimeFits_silent
  | cons e rest =>
    obtain ⟨alone, distinct⟩ := List.nodup_cons.1 hn
    rw [List.length_cons] at hl
    refine ⟨by simp only [takeChime]; omega, distinct, fun o ho => ?_, fun x hx => hs x (List.mem_cons_of_mem e hx)⟩
    obtain rfl : e.output = o := Option.some.inj ho
    exact alone

/-- A request that joins is the only one of its lantern (R80). -/
theorem chimeFits_requestChime {q : Chime} {e : ChimeEntry} (h : chimeFits q) (he : e.strokes = 1 ∨ e.strokes = 2)
    (now : Nat) : chimeFits (requestChime now e q) := by
  by_cases dropped :
      playing q.player = some e.output ∨ e.output ∈ q.queue.map ChimeEntry.output ∨ 4 ≤ q.queue.length
  · rwa [requestChime_of_dropped dropped]
  · simp only [not_or, Nat.not_le] at dropped
    obtain ⟨hp, hq, room⟩ := dropped
    obtain ⟨-, distinct, apart, strokes⟩ := h
    have length' : (q.queue ++ [e]).length ≤ 4 := by simp only [List.length_append, List.length_singleton]; omega
    have distinct' : ((q.queue ++ [e]).map ChimeEntry.output).Nodup := by
      rw [List.map_append, List.map_singleton, List.nodup_append]
      refine ⟨distinct, by simp only [List.nodup_cons, List.not_mem_nil, not_false_eq_true, List.nodup_nil, and_self],
        fun o ho o' ho' same => hq ?_⟩
      rwa [← List.mem_singleton.1 ho', ← same]
    have strokes' : ∀ x ∈ q.queue ++ [e], x.strokes = 1 ∨ x.strokes = 2 := by
      simpa [or_imp, forall_and] using ⟨strokes, he⟩
    rw [requestChime_of_joins hp hq room]
    split
    · exact chimeFits_takeChime length' distinct' strokes' now
    · refine ⟨length', distinct', fun o ho => ?_, strokes'⟩
      have other : o ≠ e.output := fun same => hp (same ▸ ho)
      simpa [other] using apart o ho

/-- A lantern's waiting entry may leave the queue (R82). -/
theorem chimeFits_dropChime {q : Chime} (h : chimeFits q) (output : Nat) : chimeFits (dropChime output q) := by
  obtain ⟨length, distinct, apart, strokes⟩ := h
  have sub : (dropChime output q).queue.Sublist q.queue := List.filter_sublist
  exact ⟨Nat.le_trans sub.length_le length, distinct.sublist (sub.map _),
    fun o ho hm => apart o ho ((sub.map _).subset hm), fun e he => strokes e (sub.subset he)⟩

/-- A player that goes on with its entry, or with none, leaves the queue (R81). -/
theorem chimeFits_player {q : Chime} (h : chimeFits q) {p : Player}
    (hp : playing p = playing q.player ∨ playing p = none) : chimeFits { q with player := p } := by
  obtain ⟨length, distinct, apart, strokes⟩ := h
  refine ⟨length, distinct, fun o ho => ?_, strokes⟩
  rcases hp with same | silent
  · exact apart o (same ▸ ho)
  · rw [silent] at ho
    exact nomatch ho

theorem chimeFits_afterTone {q : Chime} (h : chimeFits q) (now : Nat) : chimeFits (afterTone now q) := by
  unfold afterTone
  split
  · rename_i tone
    split
    · exact chimeFits_player h (.inl (by rw [tone]; rfl))
    · exact h
  · exact h

theorem chimeFits_afterGap {q : Chime} (h : chimeFits q) (now : Nat) : chimeFits (afterGap now q) := by
  unfold afterGap
  split
  · rename_i gap
    split
    · split
      · exact chimeFits_player h (.inr rfl)
      · exact chimeFits_player h (.inl (by rw [gap]; rfl))
    · exact h
  · exact h

theorem chimeFits_afterSpacing {q : Chime} (h : chimeFits q) (now : Nat) : chimeFits (afterSpacing now q) := by
  obtain ⟨length, distinct, -, strokes⟩ := id h
  unfold afterSpacing
  split
  · split
    · exact chimeFits_takeChime length distinct strokes now
    · exact h
  · exact h

/-! ### Lantern tests (R72) -/

theorem strokesOf_eq (d : Dir) : strokesOf d = 1 ∨ strokesOf d = 2 := by
  cases d <;> simp [strokesOf]

theorem chimeFits_testLantern {q : Chime} (h : chimeFits q) (cfg : Settings) (mode : PowerMode) (now : Nat)
    (c : CarRecord) (l : Lantern) : chimeFits (testLantern cfg mode now c q l).2 := by
  cases lit : l.lit with
  | false =>
    rw [testLantern_of_dark lit]
    split
    · exact chimeFits_requestChime h (strokesOf_eq _) now
    · exact h
  | true =>
    rw [testLantern_of_lit lit]
    split
    · exact chimeFits_dropChime h _
    · exact h

theorem chimeFits_testLanternList (cfg : Settings) (mode : PowerMode) (now : Nat) (cars : List CarRecord)
    (sel : CarKey → Bool) (ls : List Lantern) {q : Chime} (h : chimeFits q) :
    chimeFits (testLanternList cfg mode now cars sel ls q).2 := by
  induction ls generalizing q with
  | nil => exact h
  | cons l ls ih =>
    refine ih ?_
    split
    · split
      · exact chimeFits_testLantern h ..
      · exact h
    · exact h

theorem chimeFits_testLanterns {s : State} (h : chimeFits s.chime) (sel : CarKey → Bool) :
    chimeFits (testLanterns sel s).chime := chimeFits_testLanternList _ _ _ _ _ _ h

/-! ### The commands that sound the chime -/

theorem chimeFits_of_quiet {s t : State} (hq : Quiet s t) (h : chimeFits s.chime) : chimeFits t.chime := by
  rcases hq.1 with same | silent
  · rwa [same]
  · rw [silent]
    exact chimeFits_silent

theorem chimeFits_settle {s : State} (h : chimeFits s.chime) : chimeFits (settle s).chime :=
  chimeFits_of_quiet (quiet_settle s) h

theorem chimeFits_goStale {s : State} (h : chimeFits s.chime) (k : CarKey) : chimeFits (goStale k s).chime :=
  chimeFits_testLanterns (by exact h) _

theorem chimeFits_writeReport {s : State} (h : chimeFits s.chime) (k : CarKey) (r : Report)
    (cars : List CarRecord) : chimeFits (writeReport k r cars s).chime := by
  have tested : chimeFits (carTests k { s with cars := cars }).chime := chimeFits_testLanterns (by exact h) _
  have written : chimeFits (reportActivity k r (carTests k { s with cars := cars })).chime := by
    unfold reportActivity
    split
    · rwa [activity_chime]
    · exact tested
  unfold writeReport
  dsimp only
  split
  · exact chimeFits_goStale written k
  · exact written

theorem chimeFits_enterReport {s : State} (h : chimeFits s.chime) (k : CarKey) (r : Report) :
    chimeFits (enterReport k r s).chime := by
  unfold enterReport
  split
  · exact h
  · split
    · exact chimeFits_writeReport h ..
    · split
      · exact chimeFits_writeReport h ..
      · rwa [setFlag_chime]

theorem chimeFits_carTaken {s : State} (h : chimeFits s.chime) (e : RxEntry) : chimeFits (carTaken e s).chime := by
  unfold carTaken
  split
  · rwa [setFlag_chime]
  · have woken : ∀ b : Bool, chimeFits (if b = true then wakeSource s else s).chime := by
      intro b
      split
      · rwa [wakeSource_chime]
      · exact h
    dsimp only
    split
    · exact woken _
    · exact chimeFits_enterReport (woken _) ..

@[simp] theorem showText_chime (t : Slot) (a : Assembly) (stamp : Nat) (s : State) :
    (showText t a stamp s).chime = s.chime := by
  unfold showText; dsimp only; split <;> simp

@[simp] theorem addText_chime (q : TextPart) (stamp : Nat) (s : State) : (addText q stamp s).chime = s.chime := by
  unfold addText; dsimp only; (repeat' split) <;> simp

@[simp] theorem textTaken_chime (e : RxEntry) (s : State) : (textTaken e s).chime = s.chime := by
  unfold textTaken; dsimp only; split
  · simp
  · (repeat' split) <;> simp

@[simp] theorem textClearTaken_chime (e : RxEntry) (s : State) : (textClearTaken e s).chime = s.chime := by
  unfold textClearTaken; split <;> simp [clearText]

@[simp] theorem assemblyExpires_chime (t : Slot) (s : State) : (assemblyExpires t s).chime = s.chime := by
  unfold assemblyExpires; dsimp only; split
  · split <;> simp
  · simp

@[simp] theorem lifeExpires_chime (t : Slot) (s : State) : (lifeExpires t s).chime = s.chime := by
  unfold lifeExpires; dsimp only; split
  · split <;> simp
  · simp

theorem chimeFits_takeHead {act : RxEntry → State → State}
    (acts : ∀ e s, chimeFits s.chime → chimeFits (act e s).chime) (fits : RxEntry → Bool) {s : State}
    (h : chimeFits s.chime) : chimeFits (takeHead fits act s).chime :=
  takeHead_keeps (P := fun s => chimeFits s.chime) (fun _ => chimeFits_settle) (fun _ _ h => h) acts fits h

theorem chimeFits_notice {act : RxEntry → State → State} (acts : ∀ e s, (act e s).chime = s.chime) (k : NoticeKind)
    {s : State} (h : chimeFits s.chime) : chimeFits (takeHead (fitsNotice k) (noticeTaken act) s).chime :=
  chimeFits_takeHead
    (noticeTaken_keeps (P := fun s => chimeFits s.chime) (fun s h => by rwa [setFlag_chime])
      fun e s h => by rwa [acts e s]) _ h

theorem chimeFits_trackAll {s : State} (h : chimeFits s.chime) : chimeFits (trackAll s).chime :=
  chimeFits_testLanterns (by exact h) _

/-- An effect, or none: the two arms of a command whose event may not occur in the state. -/
theorem chimeFits_ite {s t : State} {p : Prop} [Decidable p] (ht : chimeFits t.chime) (hs : chimeFits s.chime) :
    chimeFits (if p then t else s).chime := by
  split
  · exact ht
  · exact hs

theorem chimeFits_of_next {e t : State} (h : (.next e : Host.Outcome State Fault Refusal) = .next t)
    (he : chimeFits e.chime) : chimeFits t.chime := Host.Outcome.next.inj h ▸ he

/-- Every command keeps the chime within its bounds. -/
theorem chimeFits_exec {c : Instr} {s t : State} (h : chimeFits s.chime) (ht : exec c s = .next t) :
    chimeFits t.chime := by
  cases c with
  | car => exact chimeFits_of_next ht (chimeFits_takeHead (fun e _ h => chimeFits_carTaken h e) _ h)
  | trackingInstant =>
    exact chimeFits_of_next ht (chimeFits_ite (chimeFits_settle (chimeFits_trackAll h)) h)
  | staleDeadline k =>
    exact chimeFits_of_next ht (chimeFits_ite (chimeFits_settle (chimeFits_goStale h k)) h)
  | lostDeadline =>
    exact chimeFits_of_next ht (chimeFits_ite (chimeFits_settle (chimeFits_testLanterns (by exact h) _)) h)
  | chimeToneEnd => exact chimeFits_of_next ht (chimeFits_settle (chimeFits_afterTone h _))
  | chimeGapEnd => exact chimeFits_of_next ht (chimeFits_settle (chimeFits_afterGap h _))
  | chimeSpacingEnd => exact chimeFits_of_next ht (chimeFits_settle (chimeFits_afterSpacing h _))
  | text => exact chimeFits_of_next ht (chimeFits_notice textTaken_chime _ h)
  | textClear => exact chimeFits_of_next ht (chimeFits_notice textClearTaken_chime _ h)
  | assemblyDeadline => exact chimeFits_of_next ht (chimeFits_settle (by rwa [assemblyExpires_chime]))
  | lifeDeadline => exact chimeFits_of_next ht (chimeFits_settle (by rwa [lifeExpires_chime]))
  | _ => exact chimeFits_of_quiet (quiet_exec ht not_false not_false) h

/-! ### The text slots (R134 to R140) -/

/-- The bounds of an assembly's parts, but for one being absent (R135). -/
def partsFit (parts : List (Option (List Nat))) : Prop :=
  parts.length ≤ 4 ∧ (∃ t, some t ∈ parts) ∧ ∀ t, some t ∈ parts → t.length ≤ 16

/-- The bound of a shown text (R135). -/
def shownFits (shown : Option ShownText) : Prop := ∀ v, shown = some v → v.text.length ≤ 64

/-- The bounds of an assembly in progress (R135). -/
def assemblyFits (a : Assembly) : Prop := partsFit a.parts ∧ none ∈ a.parts

theorem slotSafe_iff (x : TextSlot) :
    slotSafe x ↔ (∀ a, x.assembly = some a → assemblyFits a) ∧ shownFits x.shown := by
  unfold slotSafe assemblyFits partsFit shownFits
  refine and_congr_left fun _ => forall₂_congr fun a _ => ?_
  constructor
  · exact fun ⟨length, part, absent, chars⟩ => ⟨⟨length, part, chars⟩, absent⟩
  · exact fun ⟨⟨length, part, chars⟩, absent⟩ => ⟨length, part, absent, chars⟩

/-- Both slots within their bounds, of a store by itself. -/
def storeFits (n : NoticeStore) : Prop := ∀ t, slotSafe (getSlot t n)

theorem noticesSafe_iff (s : State) : noticesSafe s ↔ storeFits s.notices := by
  constructor
  · rintro ⟨urgent, info⟩ t
    cases t
    · exact urgent
    · exact info
  · exact fun h => ⟨h .urgent, h .info⟩

theorem storeFits_reset : storeFits State.reset.notices := by
  intro t
  cases t <;> simp [slotSafe, getSlot, State.reset]

/-- A slot is replaced, and the other is untouched (R135). -/
theorem storeFits_putSlot {n : NoticeStore} (h : storeFits n) {x : TextSlot} (hx : slotSafe x) (t : Slot) :
    storeFits (putSlot t x n) := by
  intro t'
  have urgent := h .urgent
  have info := h .info
  cases t <;> cases t'
  · exact hx
  · exact info
  · exact urgent
  · exact hx

theorem storeFits_withSlot {s : State} (h : storeFits s.notices) {shown : Option ShownText}
    {assembly : Option Assembly} (hs : shownFits shown) (ha : ∀ a, assembly = some a → assemblyFits a) (t : Slot) :
    storeFits (withSlot t { shown := shown, assembly := assembly } s).notices :=
  storeFits_putSlot h ((slotSafe_iff _).2 ⟨ha, hs⟩) t

/-- A part put at its index is present, and the others stay (R136). -/
theorem partsFit_addPart {q : TextPart} {parts : List (Option (List Nat))} (hl : parts.length ≤ 4)
    (hc : ∀ t, some t ∈ parts → t.length ≤ 16) (hq : q.chars.length ≤ 16) (hi : q.index < parts.length) :
    partsFit (addPart q parts) := by
  refine ⟨by rwa [addPart, List.length_set], ⟨q.chars, List.mem_set hi _⟩, fun t ht => ?_⟩
  rcases List.mem_or_eq_of_mem_set ht with old | new
  · exact hc t old
  · rwa [Option.some.inj new]

/-- The assembly a part leads to (R136). -/
theorem partsFit_assemblyWith {q : TextPart} {x : TextSlot} (h : slotSafe x) (hcount : q.count ≤ 4)
    (hchars : q.chars.length ≤ 16) (hindex : q.index < q.count) (stamp : Nat) :
    partsFit (assemblyWith q stamp x).parts := by
  have fresh : partsFit (addPart q (List.replicate q.count none)) :=
    partsFit_addPart (by rwa [List.length_replicate]) (by simp [List.mem_replicate]) hchars
      (by rwa [List.length_replicate])
  unfold assemblyWith
  dsimp only
  split
  · rename_i a held
    split
    · rename_i own
      obtain ⟨⟨length, -, chars⟩, -⟩ := ((slotSafe_iff x).1 h).1 a held
      have count : a.parts.length = q.count := by
        simp only [belongs, Bool.and_eq_true, beq_iff_eq] at own
        exact own.2
      exact partsFit_addPart length chars hchars (count ▸ hindex)
    · exact fresh
  · exact fresh

/-- Parts of at most `m` characters join to at most `m` for each part. -/
theorem length_joined_le {m : Nat} {parts : List (Option (List Nat))} (h : ∀ t, some t ∈ parts → t.length ≤ m) :
    (parts.flatMap fun p => p.getD []).length ≤ m * parts.length := by
  induction parts with
  | nil => exact Nat.le_refl 0
  | cons p parts ih =>
    have head : (p.getD []).length ≤ m := by
      cases p with
      | none => exact Nat.zero_le m
      | some t => exact h t List.mem_cons_self
    have tail := ih fun t ht => h t (List.mem_cons_of_mem p ht)
    rw [List.flatMap_cons, List.length_append, List.length_cons, Nat.mul_succ]
    omega

/-- Four parts of 16 characters are 64 (R137). -/
theorem length_joinedText_le {a : Assembly} (h : partsFit a.parts) : (joinedText a).length ≤ 64 := by
  obtain ⟨length, -, chars⟩ := h
  have joined : (joinedText a).length ≤ 16 * a.parts.length := length_joined_le chars
  omega

theorem none_mem_of_not_complete {a : Assembly} (h : ¬complete a = true) : none ∈ a.parts := by
  simpa [complete, Option.isSome_iff_ne_none] using h

/-- The text of a completed assembly, or none where its life has passed (R137, R138). -/
theorem storeFits_showText {s : State} (h : storeFits s.notices) {a : Assembly} (ha : partsFit a.parts) (t : Slot)
    (stamp : Nat) : storeFits (showText t a stamp s).notices := by
  have fits : ∀ shown : Option ShownText, shownFits shown →
      storeFits (withSlot t { shown := shown, assembly := none } s).notices :=
    fun shown hs => storeFits_withSlot h hs (by nofun) t
  have put : storeFits
      (withSlot t
        { shown := if stamp + Config.lifeTime ≤ s.now then none
            else some { id := a.id, text := joinedText a, life := stamp + Config.lifeTime }
          assembly := none } s).notices := by
    refine fits _ ?_
    split
    · exact nofun
    · rintro v ⟨⟩
      exact length_joinedText_le ha
  unfold showText
  dsimp only
  split
  · exact put
  · rwa [activity_notices]

/-- A part is taken in, completes its text, or comes too late (R136 to R138). -/
theorem storeFits_addText {s : State} (h : storeFits s.notices) {q : TextPart} (hcount : q.count ≤ 4)
    (hchars : q.chars.length ≤ 16) (stamp : Nat) : storeFits (addText q stamp s).notices := by
  have slot := (slotSafe_iff _).1 (h q.slot)
  have displaced : storeFits
      (if displaces q (getSlot q.slot s.notices) = true then setFlag .textDiscarded s else s).notices := by
    split
    · rwa [setFlag_notices]
    · exact h
  unfold addText
  split
  · rwa [setFlag_notices]
  · rename_i hindex
    have parts := partsFit_assemblyWith (h q.slot) hcount hchars (Nat.not_le.1 hindex) stamp
    dsimp only
    split
    · exact storeFits_showText displaced parts _ _
    · rename_i unfinished
      split
      · rw [setFlag_notices]
        exact storeFits_withSlot displaced slot.2 (by nofun) _
      · refine storeFits_withSlot displaced slot.2 ?_ _
        rintro a ⟨⟩
        exact ⟨parts, none_mem_of_not_complete unfinished⟩

/-- What the field check of a TEXT lets through (R134). -/
theorem textPartOf_bounds {p : List Byte} {q : TextPart} (h : textPartOf p = some q) :
    q.count ≤ 4 ∧ q.chars.length ≤ 16 := by
  unfold textPartOf at h
  split at h
  · split at h
    · rename_i checked
      obtain ⟨-, chars, -, -, count⟩ := checked
      obtain rfl := Option.some.inj h
      exact ⟨count, by simpa using chars⟩
    · exact nomatch h
  · exact nomatch h

theorem storeFits_textTaken {s : State} (h : storeFits s.notices) (e : RxEntry) :
    storeFits (textTaken e s).notices := by
  unfold textTaken
  split
  · rwa [setFlag_notices]
  · rename_i q read
    obtain ⟨count, chars⟩ := textPartOf_bounds read
    refine storeFits_addText ?_ count chars _
    split
    · rwa [wakeSource_notices]
    · exact h

/-- A TEXT_CLEAR takes a text, an assembly, or both from its slot (R139). -/
theorem storeFits_textClearTaken {s : State} (h : storeFits s.notices) (e : RxEntry) :
    storeFits (textClearTaken e s).notices := by
  unfold textClearTaken
  split
  · rwa [setFlag_notices]
  · rename_i t id _
    obtain ⟨assembly, shown⟩ := (slotSafe_iff _).1 (h t)
    refine storeFits_withSlot h ?_ (fun a ha => ?_) t
    · split
      · exact nofun
      · exact shown
    · split at ha
      · rename_i b held
        split at ha
        · exact nomatch ha
        · exact Option.some.inj ha ▸ assembly b held
      · exact nomatch ha

theorem storeFits_assemblyExpires {s : State} (h : storeFits s.notices) (t : Slot) :
    storeFits (assemblyExpires t s).notices := by
  have slot := (slotSafe_iff _).1 (h t)
  unfold assemblyExpires
  dsimp only
  split
  · split
    · rw [setFlag_notices]
      exact storeFits_withSlot h slot.2 (by nofun) t
    · exact h
  · exact h

theorem storeFits_lifeExpires {s : State} (h : storeFits s.notices) (t : Slot) :
    storeFits (lifeExpires t s).notices := by
  have slot := (slotSafe_iff _).1 (h t)
  unfold lifeExpires
  dsimp only
  split
  · split
    · exact storeFits_withSlot h (by nofun) slot.1 t
    · exact h
  · exact h

/-! ### The commands that write the notice store -/

theorem storeFits_of_quiet {s t : State} (hq : Quiet s t) (h : storeFits s.notices) : storeFits t.notices := by
  rcases hq.2 with same | empty
  · rwa [same]
  · rw [empty]
    exact storeFits_reset

theorem storeFits_settle {s : State} (h : storeFits s.notices) : storeFits (settle s).notices :=
  storeFits_of_quiet (quiet_settle s) h

/-- A guarded effect that leaves the notice store. -/
theorem storeFits_guarded {s e : State} {p : Prop} [Decidable p] (he : e.notices = s.notices)
    (h : storeFits s.notices) : storeFits (if p then settle e else s).notices := by
  split
  · exact storeFits_settle (he ▸ h)
  · exact h

theorem storeFits_takeHead {act : RxEntry → State → State}
    (acts : ∀ e s, storeFits s.notices → storeFits (act e s).notices) (fits : RxEntry → Bool) {s : State}
    (h : storeFits s.notices) : storeFits (takeHead fits act s).notices :=
  takeHead_keeps (P := fun s => storeFits s.notices) (fun _ => storeFits_settle) (fun _ _ h => h) acts fits h

theorem storeFits_notice {act : RxEntry → State → State}
    (acts : ∀ e s, storeFits s.notices → storeFits (act e s).notices) (k : NoticeKind) {s : State}
    (h : storeFits s.notices) : storeFits (takeHead (fitsNotice k) (noticeTaken act) s).notices :=
  storeFits_takeHead
    (noticeTaken_keeps (P := fun s => storeFits s.notices) (fun s h => by rwa [setFlag_notices]) acts) _ h

@[simp] theorem writeReport_notices (k : CarKey) (r : Report) (cars : List CarRecord) (s : State) :
    (writeReport k r cars s).notices = s.notices := by
  have acted : ∀ s : State, (reportActivity k r s).notices = s.notices := by
    intro s
    unfold reportActivity
    split <;> simp
  unfold writeReport
  dsimp only
  split <;> simp [acted, goStale, carTests]

@[simp] theorem carTaken_notices (e : RxEntry) (s : State) : (carTaken e s).notices = s.notices := by
  have entered : ∀ (k : CarKey) (r : Report) (s : State), (enterReport k r s).notices = s.notices := by
    intro k r s
    unfold enterReport
    split
    · rfl
    · split
      · simp
      · split <;> simp
  unfold carTaken
  dsimp only
  split
  · simp
  · (repeat' split) <;> simp [entered]

theorem storeFits_of_next {e t : State} (h : (.next e : Host.Outcome State Fault Refusal) = .next t)
    (he : storeFits e.notices) : storeFits t.notices := Host.Outcome.next.inj h ▸ he

/-- Every command keeps the text slots within their bounds. -/
theorem storeFits_exec {c : Instr} {s t : State} (h : storeFits s.notices) (ht : exec c s = .next t) :
    storeFits t.notices := by
  cases c with
  | text => exact storeFits_of_next ht (storeFits_notice (fun e _ h => storeFits_textTaken h e) _ h)
  | textClear => exact storeFits_of_next ht (storeFits_notice (fun e _ h => storeFits_textClearTaken h e) _ h)
  | assemblyDeadline k => exact storeFits_of_next ht (storeFits_settle (storeFits_assemblyExpires h k))
  | lifeDeadline k => exact storeFits_of_next ht (storeFits_settle (storeFits_lifeExpires h k))
  | car => exact storeFits_of_next ht (storeFits_takeHead (fun e s h => by rwa [carTaken_notices]) _ h)
  | trackingInstant | staleDeadline | lostDeadline => exact storeFits_of_next ht (storeFits_guarded rfl h)
  | chimeToneEnd | chimeGapEnd | chimeSpacingEnd => exact storeFits_of_next ht (storeFits_settle (by exact h))
  | _ => exact storeFits_of_quiet (quiet_exec ht not_false not_false) h

/-! ### A step -/

/-- What every command and the timebase keep, a step keeps. -/
theorem keptByStep_of_exec {inv : State → Prop} (exec_keeps : ∀ c s t, inv s → exec c s = .next t → inv t)
    (pending : ∀ s cs, inv s → inv { s with pending := cs }) (ticks : ∀ s, inv s → inv (tick s)) :
    keptByStep inv := by
  intro s t h ht
  unfold step at ht
  split at ht
  · exact exec_keeps _ _ _ (pending s _ h) ht
  · exact Host.Outcome.next.inj ht ▸ ticks s h

/-- The timebase writes neither the chime nor the notice store (assumption 5). -/
theorem quiet_tick (s : State) : Quiet s (tick s) := by
  unfold tick
  split <;> exact .of_stores ⟨rfl, rfl⟩

/-- Settles O7: each bound by the commands that write its store; all others are `Quiet`. -/
theorem stepKeepsTheChimeQueueAndTheNoticeStoreSafe :
    Obligations.StepKeepsTheChimeQueueAndTheNoticeStoreSafe := by
  refine ⟨keptByStep_of_exec (fun c s t h ht => ?_) (fun _ _ h => h) fun s h => ?_,
    keptByStep_of_exec (fun c s t h ht => ?_) (fun _ _ h => h) fun s h => ?_⟩
  · exact chimeFits_exec ((chimeSafe_iff s).1 h) ht
  · exact chimeFits_of_quiet (quiet_tick s) h
  · exact (noticesSafe_iff t).2 (storeFits_exec ((noticesSafe_iff s).1 h) ht)
  · exact (noticesSafe_iff _).2 (storeFits_of_quiet (quiet_tick s) ((noticesSafe_iff s).1 h))

end Sys2Proof.StoreBounds
end

section
/-! PROOF. The composer's own time (R162, R163): the standing conditions leave every region's string, so a scroll step
stands as the command left it. -/

namespace Sys2Proof.Scrolling

open Sys2Proof.Machine Sys2Proof.Safety Sys2Proof.Laws Sys2Proof.PositionTracking

/-! ### What the standing conditions leave of a string -/

/-- A record without the two fields the standing conditions write; the composer reads neither of them. -/
def composedPart (p : PromptRecord) : PromptRecord := { p with holdoff := none, takeQueued := false }

theorem map_composedPart_of_recordsFollow {s : State} :
    ∀ {ps qs : List PromptRecord}, recordsFollow s ps qs → qs.map composedPart = ps.map composedPart
  | [], [], _ => rfl
  | [], _ :: _, h => h.elim
  | _ :: _, [], h => h.elim
  | p :: ps, q :: qs, ⟨first, later⟩ => by
    have head : composedPart q = composedPart p := by rw [recordFollows_eq first]; rfl
    rw [List.map_cons, List.map_cons, head, map_composedPart_of_recordsFollow later]

theorem insertRow_map_composedPart (p : PromptRecord) (qs : List PromptRecord) :
    insertRow (composedPart p) (qs.map composedPart) = (insertRow p qs).map composedPart := by
  induction qs with
  | nil => rfl
  | cons q qs ih =>
    have order : claimedBefore (composedPart p) (composedPart q) = claimedBefore p q := rfl
    simp only [List.map_cons, insertRow, order, ih]
    split <;> rfl

theorem rowsOf_map_composedPart (ps : List PromptRecord) :
    rowsOf (ps.map composedPart) = (rowsOf ps).map composedPart := by
  have owned : (fun p : PromptRecord => p.board == .owned) ∘ composedPart = fun p => p.board == .owned := rfl
  unfold rowsOf
  rw [List.filter_map, owned]
  induction ps.filter fun p => p.board == .owned with
  | nil => rfl
  | cons p qs ih => rw [List.map_cons, List.foldr_cons, ih, insertRow_map_composedPart, List.foldr_cons]

theorem rowsContent_map_composedPart (cfg : Settings) (ps : List PromptRecord) :
    rowsContent cfg (ps.map composedPart) = rowsContent cfg ps := by
  have field : (fun p => rowField cfg (composedPart p)) = rowField cfg := rfl
  simp only [rowsContent, rowsOf_map_composedPart, ← List.map_take, List.flatMap_map, field, List.length_map]

theorem entryContent_map_composedPart (cfg : Settings) (ps : List PromptRecord) (e : EntryController) :
    entryContent cfg (ps.map composedPart) e = entryContent cfg ps e := by
  have blinks : ∀ c, answerBlinks (ps.map composedPart) c = answerBlinks ps c := by
    intro c
    cases c with
    | answer => simp only [answerBlinks, List.any_map]; rfl
    | _ => rfl
  simp only [entryContent, blinks]

/-- A region's string hangs on the configuration, the cars, the entry, the notices, the latch, and the records but for
holdoffs and marks. -/
theorem compose_congr {s t : State} (cfg : t.cfg = s.cfg) (cars : t.cars = s.cars) (entry : t.entry = s.entry)
    (notices : t.notices = s.notices) (latch : t.recallLatch = s.recallLatch)
    (prompts : t.prompts.map composedPart = s.prompts.map composedPart) (i : Nat) (g : Region) :
    compose t i g = compose s i g := by
  have rows : rowsContent s.cfg t.prompts = rowsContent s.cfg s.prompts := by
    rw [← rowsContent_map_composedPart, prompts, rowsContent_map_composedPart]
  have answers : entryContent s.cfg t.prompts s.entry = entryContent s.cfg s.prompts s.entry := by
    rw [← entryContent_map_composedPart, prompts, entryContent_map_composedPart]
  simp only [compose, recallLayer, overlayLayer, cfg, cars, entry, notices, latch, rows, answers]

/-- While no drain ends, the standing conditions change no region's string. -/
theorem compose_of_settles {e t : State} (h : settles e t) (hd : drainHolds e) (i : Nat) (g : Region) :
    compose t i g = compose e i g := by
  obtain ⟨frame, records, -⟩ := h
  rw [drainTest_holds hd] at frame records
  exact compose_congr (by rw [frame]) (by rw [frame]) (by rw [frame]) (by rw [frame]) (by rw [frame])
    (map_composedPart_of_recordsFollow records) i g

/-! ### SCROLL_DEADLINE (R163) -/

/-- The station with another display state of one region. -/
def withView (s : State) (i : Nat) (w : RegionView) : State :=
  { s with display := { s.display with regions := s.display.regions.set i w } }

/-- A region that shows its present string keeps its display state through the standing conditions (R164). -/
theorem getElem?_of_settles_withView {s t : State} {i : Nat} {v w : RegionView} (hv : s.display.regions[i]? = some v)
    (region : w.region = v.region) (shown : w.text = codesOf (compose s i v.region))
    (h : settles (withView s i w) t) (hd : drainHolds s) : t.display.regions[i]? = some w := by
  have present : w.text = codesOf (compose t i w.region) := by
    rw [compose_of_settles h hd, region]
    exact shown
  obtain ⟨-, -, -, -, views, -⟩ := h
  obtain ⟨hi, -⟩ := List.getElem?_eq_some_iff.1 hv
  have written : (s.display.regions.set i w)[i]? = some w := List.getElem?_set_self hi
  rw [drainTest_holds (s := withView s i w) hd, viewsFollow] at views
  simp only [views, withView, List.getElem?_mapIdx, written, Option.map_some, if_pos present]

theorem scrollDue_of_reached {now d : Nat} {v : RegionView} (wide : v.region.width < v.text.length)
    (hd : v.deadline = some d) (hr : d ≤ now) : scrollDue now v = true := by
  simp only [scrollDue, scrolls, passed, hd, decide_eq_true wide, decide_eq_true hr, Bool.and_self]

theorem scrollDue_of_fits {now : Nat} {v : RegionView} (fits : v.text.length ≤ v.region.width) :
    scrollDue now v = false := by
  rw [scrollDue, scrolls, decide_eq_false (Nat.not_lt.2 fits), Bool.false_and]

theorem scrollStep_of_pause {v : RegionView} (h : v.stepping = false) (now step : Nat) :
    scrollStep now step v = { v with offset := 1, stepping := true, deadline := some (now + step) } := by
  rw [scrollStep, if_pos h]

theorem scrollStep_of_lt {v : RegionView} (h : v.stepping = true) (ho : v.offset < v.text.length - v.region.width)
    (now step : Nat) :
    scrollStep now step v = { v with offset := v.offset + 1, deadline := some (now + step) } := by
  rw [scrollStep, if_neg (by simp [h]), if_pos ho]

theorem scrollStep_of_le {v : RegionView} (h : v.stepping = true) (ho : v.text.length - v.region.width ≤ v.offset)
    (now step : Nat) :
    scrollStep now step v = { v with offset := 0, stepping := false, deadline := some (now + 1000) } := by
  rw [scrollStep, if_neg (by simp [h]), if_neg (by omega)]
  rfl

theorem scrollStep_region (now step : Nat) (v : RegionView) : (scrollStep now step v).region = v.region := by
  unfold scrollStep
  (repeat' split) <;> rfl

theorem scrollStep_text (now step : Nat) (v : RegionView) : (scrollStep now step v).text = v.text := by
  unfold scrollStep
  (repeat' split) <;> rfl

theorem exec_scrollDeadline_of_dormant {s : State} (h : s.power.mode = .dormant) (i : Nat) :
    exec (.scrollDeadline i) s = .next s := by
  show execScrollDeadline i s = _
  rw [execScrollDeadline, if_pos h]

theorem modify_eq_set_of_getElem? {views : List RegionView} {i : Nat} {v : RegionView} (hv : views[i]? = some v)
    (f : RegionView → RegionView) : views.modify i f = views.set i (f v) := by
  refine List.ext_getElem? fun j => ?_
  rw [List.getElem?_modify, List.getElem?_set]
  obtain ⟨hi, -⟩ := List.getElem?_eq_some_iff.1 hv
  by_cases hj : i = j
  · rw [if_pos hj, if_pos hi, ← hj, hv]
    simp only [if_true, Option.map_eq_map, Option.map_some]
  · simp only [if_neg hj, Option.map_eq_map, Option.map_id_fun', id]

/-- The command writes the display state of its region, by a step where one is due. -/
theorem exec_scrollDeadline {s : State} {i : Nat} {v : RegionView} (hm : s.power.mode ≠ .dormant)
    (hv : s.display.regions[i]? = some v) :
    exec (.scrollDeadline i) s =
      .next (settle (withView s i (if scrollDue s.now v then scrollStep s.now s.cfg.scrollStep v else v))) := by
  show execScrollDeadline i s = _
  rw [execScrollDeadline, if_neg hm, modify_eq_set_of_getElem? hv]
  rfl

theorem withView_self {s : State} {i : Nat} {v : RegionView} (hv : s.display.regions[i]? = some v) :
    withView s i v = s := by
  obtain ⟨hi, rfl⟩ := List.getElem?_eq_some_iff.1 hv
  simp only [withView, List.set_getElem_self]

/-- Settles O58: the step of R163 in its three branches, and each stands because no string changes with it. -/
theorem scrollAndBlinkFollowTheTimebase : Obligations.ScrollAndBlinkFollowTheTimebase := by
  refine ⟨fun s i v hv shown => ?_, fun s => rfl⟩
  by_cases hm : s.power.mode = .dormant
  · exact ⟨s, exec_scrollDeadline_of_dormant hm i, fun _ => rfl, fun h => absurd hm h, fun _ h => absurd hm h⟩
  refine ⟨_, exec_scrollDeadline hm hv, fun h => absurd h hm, fun _ fits => ?_, fun d _ wide hd due => ?_⟩
  · rw [scrollDue_of_fits fits, if_neg Bool.false_ne_true, withView_self hv]
    exact settle_settles s
  · rw [if_pos (scrollDue_of_reached wide hd due)]
    have follows : ∀ w, scrollStep s.now s.cfg.scrollStep v = w →
        settles (withView s i w) (settle (withView s i (scrollStep s.now s.cfg.scrollStep v))) := by
      rintro w rfl
      exact settle_settles _
    have stands : ∀ w, scrollStep s.now s.cfg.scrollStep v = w → drainHolds s →
        (settle (withView s i (scrollStep s.now s.cfg.scrollStep v))).display.regions[i]? = some w := by
      rintro w rfl
      exact getElem?_of_settles_withView hv (scrollStep_region ..) ((scrollStep_text ..).trans shown) (settle_settles _)
    exact ⟨fun h => follows _ (scrollStep_of_pause h ..), fun h ho => follows _ (scrollStep_of_lt h ho ..),
      fun h ho => follows _ (scrollStep_of_le h ho ..), fun holds =>
        ⟨fun h => stands _ (scrollStep_of_pause h ..) holds, fun h ho => stands _ (scrollStep_of_lt h ho ..) holds,
          fun h ho => stands _ (scrollStep_of_le h ho ..) holds⟩⟩

end Sys2Proof.Scrolling
end

section
/-! PROOF. The outputs as functions of the state (R151 to R168, R195, R197): one rule for each of the matrix, the line
levels, the lantern outputs, the chime, the line bits and the blinking cells. -/

namespace Sys2Proof.Outputs

open Sys2Proof.Machine

/-! ### Line levels (R165, R166) -/

theorem lineLevel_of_not_serving {s : State} (h : serving s = false) (n : Nat) : lineLevel s n = 12 := by
  rw [lineLevel, if_neg (by simp [h])]

theorem lineLevel_of_dormant {s : State} (h : serving s = true) (hm : s.power.mode = .dormant) (n : Nat) :
    lineLevel s n = 0 := by
  rw [lineLevel, if_pos h, if_pos hm]

/-- In a serving station that is not DORMANT a line has its base level with its trim, held to the range. -/
theorem lineLevel_of_serving {s : State} (h : serving s = true) (hm : s.power.mode ≠ .dormant) (n : Nat) :
    (lineLevel s n : Int) =
      max 0 (min 15 ((baseLevel s.cfg s.power.mode : Int) + s.cfg.trims[n]?.getD 0)) := by
  rw [lineLevel, if_pos h, if_neg hm, clampInt, Int.min_comm]
  exact Int.toNat_of_nonneg (Int.le_max_left ..)

/-! ### Lantern outputs (R167) -/

theorem lanternOutput_of_not_serving {s : State} (h : serving s = false) (o : Nat) :
    lanternOutput s o = .released := by
  rw [lanternOutput, if_neg (by simp [h])]

theorem lanternOutput_of_unnamed {s : State} {o : Nat} (h : o ∉ s.lanterns.map fun l => l.entry.output) :
    lanternOutput s o = .released := by
  have unnamed : (s.lanterns.find? fun l => l.entry.output == o) = none := by
    simpa using h
  rw [lanternOutput, unnamed]
  split <;> rfl

theorem find?_output {ls : List Lantern} (hn : (ls.map fun l => l.entry.output).Nodup) {l : Lantern} (hl : l ∈ ls) :
    (ls.find? fun x => x.entry.output == l.entry.output) = some l := by
  induction ls with
  | nil => exact absurd hl List.not_mem_nil
  | cons x ls ih =>
    obtain ⟨fresh, later⟩ := List.nodup_cons.1 hn
    rcases List.mem_cons.1 hl with rfl | tail
    · rw [List.find?_cons, beq_self_eq_true]
    · have other : (x.entry.output == l.entry.output) = false :=
        beq_false_of_ne fun same => fresh (List.mem_map.2 ⟨l, tail, same.symm⟩)
      rw [List.find?_cons, other]
      exact ih later tail

theorem lanternOutput_of_mem {s : State} (h : serving s = true)
    (hn : (s.lanterns.map fun l => l.entry.output).Nodup) {l : Lantern} (hl : l ∈ s.lanterns) :
    lanternOutput s l.entry.output = driveOf l.entry.mode l.lit := by
  rw [lanternOutput, if_pos h, find?_output hn hl]

/-! ### The chime output (R168) -/

theorem chimeOutput_eq_square_iff (s : State) :
    chimeOutput s = .square1000Hz ↔ ∃ e left ends, s.chime.player = .tone e left ends := by
  unfold chimeOutput
  split <;> simp_all

theorem chimeLevel_of_silent {s : State} (h : ∀ e left ends, s.chime.player ≠ .tone e left ends) (n : Nat) :
    chimeLevel s n = .low := by
  unfold chimeLevel
  split
  · exact absurd ‹_› (h _ _ _)
  · rfl

theorem chimeLevel_of_tone {s : State} {e : ChimeEntry} {left began : Nat}
    (h : s.chime.player = .tone e left (began + 300)) (n : Nat) :
    chimeLevel s n =
      if (s.now - began) * 1000 + n < 300000 then chimeWave ((s.now - began) * 1000 + n) else .low := by
  simp only [chimeLevel, h, Nat.add_sub_add_right]
  rfl

/-! ### The line output (R195, R197) -/

theorem lineOutput_of_sending {s : State} {a : Attempt} (h : s.line.tx = .sending) (ha : s.line.attempt = some a) :
    lineOutput s = telegramBits a.frame := by
  simp [lineOutput, h, ha]

theorem lineOutput_of_not_sending {s : State} (h : s.line.tx ≠ .sending) : lineOutput s = [] := by
  simp [lineOutput, h]

/-- Bit `j` of a field counts from its most significant bit. -/
theorem getElem?_bitsOf {w : Nat} (n : Nat) {j : Nat} (h : j < w) :
    (bitsOf w n)[j]? = some (n.testBit (w - 1 - j)) := by
  induction w generalizing j with
  | zero => omega
  | succ w ih =>
    cases j with
    | zero => rfl
    | succ j =>
      have same : w + 1 - 1 - (j + 1) = w - 1 - j := by omega
      rw [bitsOf, List.getElem?_cons_succ, ih (by omega), same]

theorem bitQuarters_eq (x : Bool) :
    bitQuarters x =
      [.dominant, if x then .recessive else .dominant, if x then .recessive else .dominant, .recessive] := by
  cases x <;> rfl

/-- Under two senders a receiver samples a 1 only where both send one. -/
theorem sampleBit_wiredAnd (x y : Bool) :
    sampleBit (List.zipWith wiredAnd (bitQuarters x) (bitQuarters y)) = (x && y) := by
  cases x <;> cases y <;> rfl

/-! ### The matrix (R151, R152, R163, R166) -/

theorem matrixCell_of_not_running {s : State} (h : running s = false) (n j : Nat) : matrixCell s n j = some 7 := by
  rw [matrixCell, if_neg (by simp [h])]

theorem matrixCell_of_rejected {s : State} (h : running s = true) (hr : rejected s = true) (n j : Nat) :
    matrixCell s n j = some (wordConfigFault[j]?.getD 7) := by
  rw [matrixCell, if_pos h, if_pos hr]

theorem matrixCell_of_serving {s : State} (h : running s = true) (hr : rejected s = false) (n j : Nat) :
    matrixCell s n j = regionsCell s n j := by
  rw [matrixCell, if_pos h, if_neg (by simp [hr])]

/-- A cell of the matrix lies in the region (R151). -/
def covers (n j : Nat) (v : RegionView) : Prop :=
  v.region.line = n ∧ v.region.first ≤ j ∧ j < v.region.first + v.region.width

/-- The test by which the model looks for the region of a cell. -/
theorem covers_iff (n j : Nat) (v : RegionView) :
    (v.region.line == n && v.region.first ≤ j && j < v.region.first + v.region.width) = true ↔ covers n j v := by
  simp [covers, and_assoc]

/-- The region the model finds for a cell. -/
def regionAt (s : State) (n j : Nat) : Option (RegionView × Nat) :=
  s.display.regions.zipIdx.find? fun v =>
    v.1.region.line == n && v.1.region.first ≤ j && j < v.1.region.first + v.1.region.width

theorem regionsCell_eq (s : State) (n j : Nat) :
    regionsCell s n j = (regionAt s n j).map fun v => regionCell s v.2 v.1 (j - v.1.region.first) := rfl

theorem regionAt_eq_none {s : State} {n j : Nat} (h : ∀ v ∈ s.display.regions, ¬covers n j v) :
    regionAt s n j = none := by
  refine List.find?_eq_none.2 fun x hx => ?_
  rw [covers_iff]
  exact h x.1 (List.fst_mem_of_mem_zipIdx hx)

theorem regionAt_eq_some {s : State} {n j i : Nat} {v : RegionView} (hv : s.display.regions[i]? = some v)
    (hc : covers n j v) (alone : ∀ i' v', s.display.regions[i']? = some v' → i' ≠ i → ¬covers n j v') :
    regionAt s n j = some (v, i) := by
  have mem : (v, i) ∈ s.display.regions.zipIdx := List.mem_zipIdx_iff_getElem?.2 hv
  have isSome : (regionAt s n j).isSome = true := List.find?_isSome.2 ⟨(v, i), mem, (covers_iff n j v).2 hc⟩
  obtain ⟨⟨v', i'⟩, found⟩ := Option.isSome_iff_exists.1 isSome
  have there : s.display.regions[i']? = some v' := List.mem_zipIdx_iff_getElem?.1 (List.mem_of_find?_eq_some found)
  have test := List.find?_some found
  have covered : covers n j v' := (covers_iff n j v').1 test
  obtain rfl : i' = i := Decidable.byContradiction fun other => alone i' v' there other covered
  obtain rfl : v' = v := Option.some.inj (there.symm.trans hv)
  exact found

/-- Cell `m` of region `i`'s string as it is drawn, a space past its ends. -/
def drawnAt (s : State) (i : Nat) (g : Region) (m : Nat) : Nat :=
  (((compose s i g)[m]?).map (drawCell s.display.blinkOn)).getD 32

theorem regionCell_of_wide {s : State} {i : Nat} {v : RegionView}
    (h : v.region.width < (compose s i v.region).length) (k : Nat) :
    regionCell s i v k = drawnAt s i v.region (v.offset + k) := by
  simp only [regionCell, if_neg (Nat.not_le.2 h), drawnAt]
  cases (compose s i v.region)[v.offset + k]? <;> rfl

theorem regionCell_of_fits {s : State} {i : Nat} {v : RegionView}
    (h : (compose s i v.region).length ≤ v.region.width) {k : Nat}
    (hk : leadIn v.region (compose s i v.region).length ≤ k) :
    regionCell s i v k = drawnAt s i v.region (k - leadIn v.region (compose s i v.region).length) := by
  simp only [regionCell, if_pos h, if_pos hk, drawnAt]
  cases (compose s i v.region)[k - leadIn v.region (compose s i v.region).length]? <;> rfl

theorem regionCell_of_lead {s : State} {i : Nat} {v : RegionView}
    (h : (compose s i v.region).length ≤ v.region.width) {k : Nat}
    (hk : k < leadIn v.region (compose s i v.region).length) : regionCell s i v k = 32 := by
  simp only [regionCell, if_pos h, if_neg (Nat.not_le.2 hk)]

theorem leadIn_of_position {g : Region} {k : CarKey} {d : Deck} (h : g.kind = .position k d) (length : Nat) :
    leadIn g length = (g.width - length) / 2 := by
  simp only [leadIn, h]

theorem leadIn_of_not_position {g : Region} (h : ∀ k d, g.kind ≠ .position k d) (length : Nat) :
    leadIn g length = 0 := by
  unfold leadIn
  split
  · exact absurd ‹_› (h _ _)
  · rfl

/-! ### Blinking cells (R158, R160, R162) -/

theorem blinks_of_mem_cellsOf {b : Bool} {t : List Nat} {c : Cell} (h : c ∈ cellsOf b t) : c.blinks = b := by
  obtain ⟨_, -, rfl⟩ := List.mem_map.1 h
  rfl

/-- No cell of a string blinks. -/
def allSteady (t : List Cell) : Prop := ∀ c ∈ t, c.blinks = false

theorem allSteady_steady (t : List Nat) : allSteady (steady t) := fun _ => blinks_of_mem_cellsOf

theorem allSteady_recallLayer (s : State) : ∀ t ∈ recallLayer s, allSteady t := by
  unfold recallLayer
  split
  · exact fun t h => Option.some.inj h ▸ allSteady_steady _
  · exact fun t h => nomatch h

theorem allSteady_textLayer (x : TextSlot) : ∀ t ∈ textLayer x, allSteady t := by
  intro t h
  obtain ⟨v, -, rfl⟩ := Option.map_eq_some_iff.1 h
  exact allSteady_steady _

theorem allSteady_overlayLayer (s : State) (overlay : Bool) : ∀ t ∈ overlayLayer s overlay, allSteady t := by
  unfold overlayLayer
  split
  · exact allSteady_textLayer _
  · exact fun t h => nomatch h

theorem allSteady_or {a b : Option (List Cell)} (ha : ∀ t ∈ a, allSteady t) (hb : ∀ t ∈ b, allSteady t) :
    ∀ t ∈ a.or b, allSteady t := by
  cases a with
  | none => exact hb
  | some t => exact ha

theorem allSteady_getD {o : Option (List Cell)} {content : List Cell} (ho : ∀ t ∈ o, allSteady t)
    (hc : o = none → allSteady content) : allSteady (o.getD content) := by
  cases o with
  | none => exact hc rfl
  | some t => exact ho t rfl

/-- The layers over the own content of a BOARD or KIOSK region (R153). -/
def layersOver (s : State) (g : Region) : Option (List Cell) := (recallLayer s).or (overlayLayer s g.overlay)

theorem allSteady_layersOver (s : State) (g : Region) : ∀ t ∈ layersOver s g, allSteady t :=
  allSteady_or (allSteady_recallLayer s) (allSteady_overlayLayer s g.overlay)

theorem recallLayer_eq_none_iff (s : State) : recallLayer s = none ↔ ¬s.recallLatch.latched = true := by
  unfold recallLayer
  split
  case isTrue latched => exact ⟨fun h => (nomatch h), fun h => absurd latched h⟩
  case isFalse clear => exact ⟨fun _ => clear, fun _ => rfl⟩

theorem overlayLayer_eq_none_iff (s : State) (overlay : Bool) :
    overlayLayer s overlay = none ↔ ¬(overlay = true ∧ s.notices.urgent.shown.isSome = true) := by
  cases overlay <;> cases h : s.notices.urgent.shown <;> simp [overlayLayer, textLayer, h]

/-- A layer covers the own content of a BOARD or KIOSK region. -/
def covered (s : State) (g : Region) : Prop :=
  s.recallLatch.latched = true ∨ (g.overlay = true ∧ s.notices.urgent.shown.isSome = true)

theorem layersOver_eq_none_iff (s : State) (g : Region) : layersOver s g = none ↔ ¬covered s g := by
  rw [layersOver, Option.or_eq_none_iff, recallLayer_eq_none_iff, overlayLayer_eq_none_iff, covered, not_or]

theorem compose_board (s : State) (i : Nat) {g : Region} (h : g.kind = .board) :
    compose s i g = (layersOver s g).getD (rowsContent s.cfg s.prompts) := by
  simp only [compose, h, layersOver]

theorem compose_kiosk (s : State) (i : Nat) {g : Region} (h : g.kind = .kiosk) :
    compose s i g = (layersOver s g).getD (entryContent s.cfg s.prompts s.entry) := by
  simp only [compose, h, layersOver]

/-- Only the own content of a BOARD or KIOSK region can blink (R158, R160). -/
theorem allSteady_compose {s : State} {g : Region} (h : covered s g ∨ (g.kind ≠ .board ∧ g.kind ≠ .kiosk))
    (i : Nat) : allSteady (compose s i g) := by
  have overlaid : ∀ content, allSteady ((overlayLayer s g.overlay).getD (steady content)) := fun content =>
    allSteady_getD (allSteady_overlayLayer s g.overlay) fun _ => allSteady_steady content
  have own : ∀ content, ¬(g.kind ≠ .board ∧ g.kind ≠ .kiosk) → allSteady ((layersOver s g).getD content) :=
    fun content kind => allSteady_getD (allSteady_layersOver s g) fun bare =>
      absurd (h.resolve_right kind) ((layersOver_eq_none_iff s g).1 bare)
  cases hk : g.kind with
  | position car deck => simpa only [compose, hk] using overlaid _
  | stoplist car => simpa only [compose, hk] using overlaid _
  | board => exact compose_board s i hk ▸ own _ (by simp [hk])
  | kiosk => exact compose_kiosk s i hk ▸ own _ (by simp [hk])
  | notice =>
    simp only [compose, hk]
    exact allSteady_getD
      (allSteady_or (allSteady_recallLayer s) (allSteady_or (allSteady_textLayer _) (allSteady_textLayer _)))
      fun _ c h => nomatch h

/-! #### Rows (R158) -/

/-- The fields of a board, row by row. -/
def fieldsOf (cfg : Settings) (ps : List PromptRecord) : List (List Cell) :=
  ((rowsOf ps).take cfg.rowCount).map (rowField cfg)
    ++ List.replicate (cfg.rowCount - (rowsOf ps).length) blankField

theorem rowsContent_eq_flatten (cfg : Settings) (ps : List PromptRecord) :
    rowsContent cfg ps = (fieldsOf cfg ps).flatten := by
  rw [fieldsOf, List.flatten_append, rowsContent, List.flatMap_def]

theorem length_rowField (cfg : Settings) (p : PromptRecord) : (rowField cfg p).length = 8 := by
  simp [rowField, cellsOf, label3]

theorem length_of_mem_fieldsOf {cfg : Settings} {ps : List PromptRecord} {f : List Cell} (h : f ∈ fieldsOf cfg ps) :
    f.length = 8 := by
  rcases List.mem_append.1 h with field | blank
  · obtain ⟨p, -, rfl⟩ := List.mem_map.1 field
    exact length_rowField cfg p
  · rw [(List.mem_replicate.1 blank).2]
    rfl

theorem fieldsOf_of_row {cfg : Settings} {ps : List PromptRecord} {m : Nat} (hm : m < cfg.rowCount)
    {p : PromptRecord} (hp : (rowsOf ps)[m]? = some p) : (fieldsOf cfg ps)[m]? = some (rowField cfg p) := by
  obtain ⟨hl, -⟩ := List.getElem?_eq_some_iff.1 hp
  rw [fieldsOf, List.getElem?_append_left (by simp; omega), List.getElem?_map, List.getElem?_take_of_lt hm, hp,
    Option.map_some]

theorem fieldsOf_of_blank {cfg : Settings} {ps : List PromptRecord} {m : Nat} (hm : m < cfg.rowCount)
    (hl : (rowsOf ps).length ≤ m) : (fieldsOf cfg ps)[m]? = some blankField := by
  rw [fieldsOf, List.getElem?_append_right (by simp; omega), List.getElem?_replicate, if_pos]
  simp
  omega

/-- Parts of one length, one after the other: each stands at its place. -/
theorem take_drop_flatten {k : Nat} {parts : List (List Cell)} (h : ∀ x ∈ parts, x.length = k) {m : Nat}
    {x : List Cell} (hx : parts[m]? = some x) : (parts.flatten.drop (k * m)).take k = x := by
  induction parts generalizing m with
  | nil => simp at hx
  | cons y parts ih =>
    obtain ⟨hy, later⟩ := List.forall_mem_cons.1 h
    cases m with
    | zero =>
      obtain rfl : y = x := by simpa using hx
      rw [Nat.mul_zero, List.drop_zero, List.flatten_cons, List.take_append_of_le_length (Nat.le_of_eq hy.symm),
        List.take_of_length_le (Nat.le_of_eq hy)]
    | succ m =>
      have past : k * (m + 1) = y.length + k * m := by rw [hy, Nat.mul_succ, Nat.add_comm]
      rw [List.flatten_cons, past, List.drop_length_add_append]
      exact ih later hx

/-- Row `m` of a board that nothing covers. -/
theorem rowCells_of_field {s : State} {i : Nat} {g : Region} (hk : g.kind = .board) (ho : layersOver s g = none)
    {m : Nat} {f : List Cell} (hf : (fieldsOf s.cfg s.prompts)[m]? = some f) :
    ((compose s i g).drop (8 * m)).take 8 = f := by
  rw [compose_board s i hk, ho, Option.getD_none, rowsContent_eq_flatten]
  exact take_drop_flatten (fun _ => length_of_mem_fieldsOf) hf

/-! #### The entry content (R159, R160) -/

theorem answerBlinks_iff (ps : List PromptRecord) (content : PromptContent) :
    answerBlinks ps content = true ↔
      ∃ k f car deck cls, content = .answer k f car deck cls
        ∧ ∃ p ∈ ps, p.key = k ∧ p.phase = .boarding ∧ p.localUntil.isSome = true := by
  cases content with
  | answer k f car deck cls =>
    simp only [answerBlinks, List.any_eq_true, Bool.and_eq_true, beq_iff_eq, and_assoc]
    refine ⟨fun found => ⟨k, f, car, deck, cls, rfl, found⟩, ?_⟩
    rintro ⟨_, _, _, _, _, ⟨⟩, found⟩
    exact found
  | _ => simp [answerBlinks]

/-- The cells of the entry content blink together: those of a shown ANSWER whose record is Boarding with its local
part. -/
theorem blinks_of_mem_entryContent {cfg : Settings} {ps : List PromptRecord} {e : EntryController} {c : Cell}
    (h : c ∈ entryContent cfg ps e) :
    c.blinks = true ↔ e.entering = false ∧ ∃ q, e.prompt = some q ∧ answerBlinks ps q.content = true := by
  unfold entryContent at h
  split at h
  case isTrue entering => simp [allSteady_steady _ c h, entering]
  case isFalse idle =>
    split at h
    case h_1 q hq => simp [blinks_of_mem_cellsOf h, idle, hq]
    case h_2 hq => simp [allSteady_steady _ c h, hq]

/-! ### Drawn cells (R161, R162) -/

theorem drawable_iff (n : Nat) : drawable n = true ↔ (32 ≤ n ∧ n ≤ 126) ∨ (1 ≤ n ∧ n ≤ 7) := by
  simp [drawable]

theorem drawCell_of_off {c : Cell} (h : c.blinks = true) : drawCell false c = 32 := by
  simp [drawCell, h]

theorem drawCell_on (c : Cell) : drawCell true c = if drawable c.code then c.code else 32 := by
  simp [drawCell]

theorem drawCell_steady (blinkOn : Bool) (n : Nat) :
    drawCell blinkOn { code := n, blinks := false } = if drawable n then n else 32 := by
  simp [drawCell]

/-! ### The statement, output by output -/

theorem lineLevels_follow (s : State) (n : Nat) :
    (serving s = false → lineLevel s n = 12)
      ∧ (serving s = true →
        (s.power.mode = .active →
          (lineLevel s n : Int) = max 0 (min 15 (s.cfg.activeLevel + s.cfg.trims[n]?.getD 0)))
        ∧ (s.power.mode = .dim ∨ s.power.mode = .draining →
          (lineLevel s n : Int) = max 0 (min 15 (s.cfg.dimLevel + s.cfg.trims[n]?.getD 0)))
        ∧ (s.power.mode = .dormant → lineLevel s n = 0)) := by
  refine ⟨fun h => lineLevel_of_not_serving h n, fun h => ⟨fun hm => ?_, fun hm => ?_, fun hm => ?_⟩⟩
  · rw [lineLevel_of_serving h (by simp [hm]), hm, baseLevel]
  · rcases hm with hm | hm <;> rw [lineLevel_of_serving h (by simp [hm]), hm, baseLevel]
  · exact lineLevel_of_dormant h hm n

/-- The table of R167. -/
theorem lanternOutputs_follow {s : State} {l : Lantern} (hl : l ∈ s.lanterns) (h : serving s = true)
    (hn : (s.lanterns.map fun l => l.entry.output).Nodup) :
    (l.entry.mode = .pushPull → l.lit = true → lanternOutput s l.entry.output = .high)
      ∧ (l.entry.mode = .pushPull → l.lit = false → lanternOutput s l.entry.output = .low)
      ∧ (l.entry.mode = .openDrain → l.lit = true → lanternOutput s l.entry.output = .low)
      ∧ (l.entry.mode = .openDrain → l.lit = false → lanternOutput s l.entry.output = .released) := by
  rw [lanternOutput_of_mem h hn hl]
  refine ⟨fun hm hl => ?_, fun hm hl => ?_, fun hm hl => ?_, fun hm hl => ?_⟩ <;> rw [hm, hl, driveOf]

/-- The wave of a tone that began at a known instant. -/
theorem chimeLevel_follows {s : State} {e : ChimeEntry} {left began : Nat}
    (h : s.chime.player = .tone e left (began + 300)) (n : Nat) :
    let sounded := (s.now - began) * 1000 + n
    (sounded < 300000 → sounded % 1000 < 500 → chimeLevel s n = .high)
      ∧ (300000 ≤ sounded ∨ 500 ≤ sounded % 1000 → chimeLevel s n = .low) := by
  intro sounded
  rw [chimeLevel_of_tone h]
  refine ⟨fun sounds high => ?_, fun silent => ?_⟩
  · rw [if_pos sounds, chimeWave, if_pos high]
  · rcases silent with ended | low
    · exact if_neg (Nat.not_lt.2 ended)
    · rw [chimeWave, if_neg (Nat.not_lt.2 low), ite_self]

theorem lineLevels_eq (s : State) :
    lineLevels s = (lineOutput s).flatMap fun x =>
      [.dominant, if x then .recessive else .dominant, if x then .recessive else .dominant, .recessive] :=
  congrArg (lineOutput s).flatMap (funext bitQuarters_eq)

/-- In safe mode the fault pattern stands in the first twelve cells of a line, and dash glyphs after it (R166). -/
theorem matrixCell_of_rejected_cases {s : State} (h : running s = true) (hr : rejected s = true) (n j : Nat) :
    (12 ≤ j → matrixCell s n j = some 7) ∧ (j < 12 → matrixCell s n j = wordConfigFault[j]?) := by
  rw [matrixCell_of_rejected h hr]
  refine ⟨fun hj => ?_, fun hj => ?_⟩
  · rw [List.getElem?_eq_none hj, Option.getD_none]
  · rw [List.getElem?_eq_getElem (show j < wordConfigFault.length from hj), Option.getD_some]

/-- A cell of region `i` shows the string from its offset, from the first cell, or centred (R152, R163). -/
theorem regionCell_follows (s : State) (i : Nat) (v : RegionView) (k : Nat) :
    let string := compose s i v.region
    let lead : Nat := (v.region.width - string.length) / 2
    (v.region.width < string.length → regionCell s i v k = drawnAt s i v.region (v.offset + k))
      ∧ (string.length ≤ v.region.width → (∀ c d, v.region.kind ≠ .position c d) →
          regionCell s i v k = drawnAt s i v.region k)
      ∧ (string.length ≤ v.region.width → (∃ c d, v.region.kind = .position c d) →
          (k < lead → regionCell s i v k = 32)
            ∧ (lead ≤ k → regionCell s i v k = drawnAt s i v.region (k - lead))) := by
  refine ⟨regionCell_of_wide (k := k), fun fits other => ?_, fun fits ⟨c, d, position⟩ => ?_⟩
  · have first := leadIn_of_not_position other (compose s i v.region).length
    rw [regionCell_of_fits fits (by omega), first, Nat.sub_zero]
  · have centred := leadIn_of_position position (compose s i v.region).length
    refine ⟨fun before => ?_, fun within => ?_⟩
    · rw [regionCell_of_lead fits (by rwa [centred])]
    · rw [regionCell_of_fits fits (by rwa [centred]), centred]

/-- The rows of a board that nothing covers: a Boarding row blinks whole, and no other cell does (R158). -/
theorem boardCells_blink {s : State} {g : Region} (hk : g.kind = .board) (ho : ¬covered s g) (i : Nat) {m : Nat}
    (hm : m < s.cfg.rowCount) :
    (∀ p, (rowsOf s.prompts)[m]? = some p →
        ∀ c ∈ ((compose s i g).drop (8 * m)).take 8, (c.blinks = true ↔ p.phase = .boarding))
      ∧ ((rowsOf s.prompts).length ≤ m → ∀ c ∈ ((compose s i g).drop (8 * m)).take 8, c.blinks = false) := by
  have bare := (layersOver_eq_none_iff s g).2 ho
  refine ⟨fun p hp => ?_, fun hl => ?_⟩
  · rw [rowCells_of_field hk bare (fieldsOf_of_row hm hp)]
    intro c hc
    rw [blinks_of_mem_cellsOf hc, beq_iff_eq]
  · rw [rowCells_of_field hk bare (fieldsOf_of_blank hm hl)]
    exact allSteady_steady _

/-- The cells of a kiosk that nothing covers (R160). -/
theorem kioskCells_blink {s : State} {g : Region} (hk : g.kind = .kiosk) (ho : ¬covered s g) (i : Nat) {c : Cell}
    (hc : c ∈ compose s i g) :
    c.blinks = true ↔
      s.entry.entering = false
        ∧ ∃ q k f car deck cls, s.entry.prompt = some q ∧ q.content = .answer k f car deck cls
          ∧ ∃ p ∈ s.prompts, p.key = k ∧ p.phase = .boarding ∧ p.localUntil.isSome = true := by
  rw [compose_kiosk s i hk, (layersOver_eq_none_iff s g).2 ho, Option.getD_none] at hc
  simp only [blinks_of_mem_entryContent hc, answerBlinks_iff, exists_and_left]

/-- A code is drawn as itself or, outside the set, as a space (R161). -/
theorem drawCell_follows (c : Cell) :
    (c.blinks = true → drawCell false c = 32)
      ∧ (c.blinks = true → drawCell true c = drawCell false { c with blinks := false })
      ∧ ((32 ≤ c.code ∧ c.code ≤ 126) ∨ (1 ≤ c.code ∧ c.code ≤ 7) →
          drawCell true c = c.code ∧ drawCell false { c with blinks := false } = c.code)
      ∧ (c.code = 0 ∨ (8 ≤ c.code ∧ c.code < 32) ∨ 126 < c.code → drawCell true c = 32) := by
  rw [drawCell_on, drawCell_steady]
  refine ⟨drawCell_of_off, fun _ => rfl, fun inside => ?_, fun outside => ?_⟩
  · rw [if_pos ((drawable_iff _).2 inside)]
    exact ⟨rfl, rfl⟩
  · rw [if_neg]
    rw [drawable_iff]
    omega

/-- Settles O60: each output by its own rule. -/
theorem outputsFollowTheState : Obligations.OutputsFollowTheState := by
  refine fun s => ⟨lineLevels_follow s, fun o => ?_, ?_, ?_, fun n j => ?_, fun i g => ?_, drawCell_follows⟩
  · exact ⟨fun h => lanternOutput_of_not_serving h o, lanternOutput_of_unnamed,
      fun l hl h hn => lanternOutputs_follow hl h hn⟩
  · exact ⟨chimeOutput_eq_square_iff s, fun n h => chimeLevel_of_silent h n,
      fun e left began n h _ => chimeLevel_follows h n⟩
  · exact ⟨fun a h ha => lineOutput_of_sending h ha, lineOutput_of_not_sending, fun w n j h => getElem?_bitsOf n h,
      lineLevels_eq s, sampleBit_wiredAnd⟩
  · refine ⟨fun h => matrixCell_of_not_running h n j, fun h hr => (matrixCell_of_rejected_cases h hr n j).1,
      fun h hr => (matrixCell_of_rejected_cases h hr n j).2, fun h hr => ?_⟩
    rw [matrixCell_of_serving h hr, regionsCell_eq]
    refine ⟨fun dark => ?_, fun i v hv hc alone => ?_⟩
    · rw [regionAt_eq_none dark, Option.map_none]
    · rw [regionAt_eq_some hv hc alone, Option.map_some]
      simp only [Option.some.injEq]
      exact regionCell_follows s i v (j - v.region.first)
  · exact ⟨fun h => allSteady_compose h i, fun hk ho m hm => boardCells_blink hk ho i hm,
      fun hk ho c hc => kioskCells_blink hk ho i hc⟩

end Sys2Proof.Outputs
end

section
/-! PROOF. Status (11.6, 11.7): an occurrence of a flag writes one bit of the flags, at most one of the recurred
marks, and what the alert test makes of the slot and the pending mark. -/

namespace Sys2Proof.StatusFlags

open Sys2Proof.Machine Sys2Proof.Safety Sys2Proof.Laws

/-! ### Words of flags (R191, 12.1) -/

theorem allFlags_getElem?_flagBit (f : Flag) : allFlags[flagBit f]? = some f := by cases f <;> rfl

theorem flagBit_injective : Function.Injective flagBit := fun f g h =>
  Option.some.inj (by rw [← allFlags_getElem?_flagBit f, h, allFlags_getElem?_flagBit g])

theorem flagBit_lt (f : Flag) : flagBit f < 13 :=
  (List.getElem?_eq_some_iff.1 (allFlags_getElem?_flagBit f)).1

theorem hasFlag_or (v w : BitVec 13) (g : Flag) : hasFlag (v ||| w) g = (hasFlag v g || hasFlag w g) :=
  BitVec.getLsbD_or

theorem hasFlag_flagWord (f g : Flag) : hasFlag (flagWord f) g = (g == f) := by
  rw [Bool.eq_iff_iff, beq_iff_eq, @eq_comm _ g, ← flagBit_injective.eq_iff, hasFlag, flagWord, BitVec.getLsbD_ofNat,
    Nat.testBit_two_pow]
  simp [flagBit_lt]

/-! ### The alert test (R192) -/

theorem statInFlight_iff (s : State) :
    statInFlight s = true ↔ ∃ a, s.line.attempt = some a ∧ a.item = .stat := by
  unfold statInFlight
  cases s.line.attempt <;> simp

theorem holdOffRunning_iff (now : Nat) (t : StatusBlock) :
    holdOffRunning now t = true ↔ ∃ d, t.holdOff = some d ∧ now ≤ d := by
  unfold holdOffRunning
  cases t.holdOff <;> simp

theorem alertSlot_of_full {t : StatusBlock} (h : t.slot.isSome = true) (now : Nat) : alertSlot now t = t := by
  obtain ⟨o, ho⟩ := Option.isSome_iff_exists.1 h
  simp only [alertSlot, ho]

theorem alertSlot_of_empty {t : StatusBlock} (h : t.slot = none) (now : Nat) :
    alertSlot now t =
      if holdOffRunning now t = true then { t with alertPending := true } else { t with slot := some .alert } := by
  simp only [alertSlot, h]

/-- The terms of the alert test: the flag passes from clear to set, in RUNNING, the station may transmit, and the
mask has the flag (R188, R192). -/
abbrev alertDue (f : Flag) (s : State) : Prop :=
  hasFlag s.status.flags f = false ∧ s.start.stage = .running ∧ s.start.address ≠ 0
    ∧ hasFlag s.cfg.alertMask f = true

/-- Status with an occurrence entered, before the alert test (R191). -/
def marked (f : Flag) (s : State) : StatusBlock :=
  { s.status with
    flags := s.status.flags ||| flagWord f
    recurred := if statInFlight s then s.status.recurred ||| flagWord f else s.status.recurred }

/-- An occurrence: the flag and its mark, and then the alert test when its terms hold. -/
theorem setFlag_status (f : Flag) (s : State) :
    (setFlag f s).status = if alertDue f s then alertSlot s.now (marked f s) else marked f s := by
  unfold setFlag alertTest alertDue marked
  cases hasFlag s.status.flags f
  · simp only [true_and, Bool.false_eq_true, if_false]
    split <;> rfl
  · simp

theorem setFlag_status_of_not_due {f : Flag} {s : State} (h : ¬alertDue f s) : (setFlag f s).status = marked f s := by
  rw [setFlag_status, if_neg h]

theorem setFlag_status_of_full {f : Flag} {s : State} (h : s.status.slot.isSome = true) :
    (setFlag f s).status = marked f s := by
  rw [setFlag_status, alertSlot_of_full (t := marked f s) h, ite_self]

theorem setFlag_status_of_empty {f : Flag} {s : State} (h : alertDue f s) (empty : s.status.slot = none) :
    (setFlag f s).status =
      if holdOffRunning s.now s.status = true then { marked f s with alertPending := true }
      else { marked f s with slot := some .alert } := by
  rw [setFlag_status, if_pos h, alertSlot_of_empty (t := marked f s) empty]
  rfl

/-- The recurred marks after an occurrence (R191). -/
theorem setFlag_recurred (f : Flag) (s : State) :
    (setFlag f s).status.recurred =
      if statInFlight s then s.status.recurred ||| flagWord f else s.status.recurred := by
  rw [setFlag_status]
  split
  · exact (alertSlot_flags _ _).2.2.1
  · rfl

/-- An occurrence while a STAT is on the line marks its flag and no other (R191). -/
theorem hasFlag_recurred_of_inFlight {s : State} (h : statInFlight s = true) (f g : Flag) :
    hasFlag (setFlag f s).status.recurred g = (hasFlag s.status.recurred g || g == f) := by
  rw [setFlag_recurred, if_pos h, hasFlag_or, hasFlag_flagWord]

/-- Settles O28: the flags and marks bit by bit, and the slot and the pending mark by whether an alert is due. -/
theorem flagsAreSetAndAlerted : Obligations.FlagsAreSetAndAlerted := by
  intro s f
  obtain ⟨captured, holdOff⟩ := setFlag_marks s f
  refine ⟨fun g => ?_, fun a ha hstat => ?_, fun other => ?_, captured, holdOff, setFlag_eq f s, fun undue => ?_,
    fun runs address clear masked empty => ⟨fun ended => ?_, fun holds => ?_⟩⟩
  · rw [setFlag_flags, hasFlag_or, hasFlag_flagWord]
  · have marks := hasFlag_recurred_of_inFlight ((statInFlight_iff s).2 ⟨a, ha, hstat⟩) f
    exact ⟨by simp [marks], fun g hg => by simp [marks, hg]⟩
  · have idle : ¬statInFlight s = true := fun h =>
      let ⟨a, ha, hstat⟩ := (statInFlight_iff s).1 h
      other a ha hstat
    rw [setFlag_recurred, if_neg idle]
  · have unchanged : (setFlag f s).status = marked f s := by
      rcases undue with set | stage | address | unmasked | full
      · exact setFlag_status_of_not_due (by simp [alertDue, set])
      · exact setFlag_status_of_not_due (by simp [alertDue, stage])
      · exact setFlag_status_of_not_due (by simp [alertDue, address])
      · exact setFlag_status_of_not_due (by simp [alertDue, unmasked])
      · exact setFlag_status_of_full full
    rw [unchanged]
    exact ⟨rfl, rfl⟩
  · have quiet : ¬holdOffRunning s.now s.status = true := by
      rw [holdOffRunning_iff]
      rintro ⟨d, hd, running⟩
      rcases ended with absent | ⟨d', hd', past⟩
      · simp [absent] at hd
      · obtain rfl : d = d' := Option.some.inj (hd.symm.trans hd')
        omega
    rw [setFlag_status_of_empty ⟨clear, runs, address, masked⟩ empty, if_neg quiet]
    exact ⟨rfl, rfl⟩
  · rw [setFlag_status_of_empty ⟨clear, runs, address, masked⟩ empty,
      if_pos ((holdOffRunning_iff _ _).2 holds)]
    exact ⟨empty, rfl⟩

end Sys2Proof.StatusFlags
end

section
/-! PROOF. The station itself (11.1, 11.5, 11.7): the state a reset leaves, a QUERY taken, and the end of the alert
hold-off. -/

namespace Sys2Proof.StationQueries

open Sys2Proof.Machine Sys2Proof.Safety Sys2Proof.Laws

/-! ### The state right after reset (R183) -/

theorem queueSafe_of_empty {s : State} (h : s.rx = { entries := [], congested := false }) : queueSafe s := by
  simp [queueSafe, h]

theorem lineSafe_reset : lineSafe State.reset := by
  simp [lineSafe, State.reset, LineInterface.afterReset]

theorem carsSafe_reset : carsSafe State.reset := by
  simp [carsSafe, State.reset, Settings.none]

theorem chimeSafe_of_silent {s : State} (h : s.chime = silentChime) : chimeSafe s := by
  simp [chimeSafe, h, silentChime, playing]

theorem entrySafe_of_idle {s : State} (h : s.entry = EntryController.idle) : entrySafe s := by
  simp [entrySafe, h, EntryController.idle]

theorem requestsSafe_of_empty {s : State} (h : s.requests = { entries := [], tagCounter := 1 }) : requestsSafe s := by
  simp [requestsSafe, h]

theorem promptsSafe_of_empty {s : State} (h : s.prompts = []) : promptsSafe s := by
  simp [promptsSafe, h]

theorem rowsSafe_of_empty {s : State} (prompts : s.prompts = []) (releases : s.releases = [])
    (fifo : s.showFifo = []) : rowsSafe s := by
  simp [rowsSafe, rowsTaken, prompts, releases, fifo]

theorem latchSafe_of_clear {s : State} (h : s.recallLatch.latched = false) : latchSafe s := by
  simp [latchSafe, h]

theorem dormantSafe_of_awake {s : State} (h : s.power.mode ≠ .dormant) : dormantSafe s := fun hd => absurd hd h

theorem powerSafe_reset : powerSafe State.reset := by
  simp [powerSafe, State.reset, PowerController.afterReset, serving, running]

/-- Settles O3: each invariant by what the table of R183 leaves empty, idle or clear. -/
theorem resetStateIsSafe : Obligations.ResetStateIsSafe := by
  have notices : noticesSafe State.reset := (StoreBounds.noticesSafe_iff _).2 StoreBounds.storeFits_reset
  exact ⟨queueSafe_of_empty rfl, lineSafe_reset, carsSafe_reset, chimeSafe_of_silent rfl, entrySafe_of_idle rfl,
    requestsSafe_of_empty rfl, promptsSafe_of_empty rfl, rowsSafe_of_empty rfl rfl rfl,
    (by decide : (1 : BitVec 16) ≠ 0), notices, latchSafe_of_clear rfl, dormantSafe_of_awake (by decide),
    powerSafe_reset⟩

/-! ### The LINE reset (R182 to R184) -/

/-- Nothing begins by itself in a station that is awake and silent, with no board and no region. -/
theorem settle_of_blank {s : State} (mode : s.power.mode ≠ .draining) (tx : s.line.tx = .off)
    (board : boardStation s.cfg = false) (regions : s.display.regions = []) : settle s = s := by
  have holdoffs : holdoffTest s = s := by simp [holdoffTest, holdoffsAllowed, board]
  have attempts : attemptTest s = s := by simp [attemptTest, mayTransmit, tx]
  have views : recompose s = s := by
    unfold recompose
    rw [regions, List.mapIdx_nil, ← regions]
  rw [settle, drainTest_awake mode, holdoffs, attempts, views]

theorem settle_lineReset (s : State) : settle (lineReset s) = lineReset s :=
  settle_of_blank (by exact (by decide : PowerMode.active ≠ .draining)) rfl rfl rfl

theorem afterReset_lineReset (s : State) : afterReset (lineReset s) := by
  simp [afterReset, lineReset, beginLoading, resetStation, State.reset, LineInterface.afterReset, Settings.none,
    silentChime]

/-- The straps are sampled, and LOADING begins with no other input to hold the station (R184). -/
theorem strapsSampled_lineReset {s : State} (pin : s.start.resetPinAsserted = false)
    (supply : s.start.supplyLow = false) : strapsSampled (lineReset s) { s.start with cause := .line } := by
  have refused : s.start.addressPins = 127 ↔ s.start.addressPins.toNat = 127 := BitVec.toNat_inj.symm
  have mark : (s.start.addressPins == 127) = (s.start.addressPins.toNat == 127) := by
    rw [Bool.eq_iff_iff, beq_iff_eq, beq_iff_eq, refused]
  simp only [strapsSampled, lineReset, beginLoading, resetStation, strapAddress, pin, supply, refused, mark,
    Bool.false_eq_true, or_self, if_false]

/-! ### A QUERY taken (R189) -/

theorem asleep_eq_not_awake (m : PowerMode) : asleep m = !awake m := by cases m <;> rfl

/-- A QUERY is acted on in safe mode too (R186). -/
theorem takeHead_of_query {fits : RxEntry → Bool} {act : RxEntry → State → State} {s : State} {e : RxEntry}
    {rest : List RxEntry} (runs : running s = true) (head : s.rx.entries = e :: rest) (kind : e.kind = .query)
    (hf : fits e = true) : takeHead fits act s = settle (act e (headTaken s rest)) := by
  simp [takeHead, runs, head, kind, hf, headTaken]

theorem queryActionOf_eq_none {n : Nat} (h1 : n ≠ 1) (h2 : n ≠ 2) : queryActionOf n = none := by
  unfold queryActionOf
  split <;> simp_all

theorem fitsQuery_restart {e : RxEntry} (kind : e.kind = .query) (action : byteAt e.payload 1 = 2) :
    fitsQuery .restart e = true := by
  simp [fitsQuery, kind, action, queryActionOf]

/-- QUERY_STATUS takes every QUERY whose action is not RESTART, one that names none with it (assumption 3). -/
theorem fitsQuery_status {e : RxEntry} (kind : e.kind = .query) (action : byteAt e.payload 1 ≠ 2) :
    fitsQuery .status e = true := by
  by_cases status : byteAt e.payload 1 = 1
  · simp [fitsQuery, kind, status, queryActionOf]
  · simp [fitsQuery, kind, queryActionOf_eq_none status action]

/-- A QUERY is ignored in DRAINING and DORMANT, whatever its action (assumption 11). -/
theorem queryTaken_of_asleep {s : State} (h : awake s.power.mode = false) (e : RxEntry) : queryTaken e s = s := by
  simp [queryTaken, asleep_eq_not_awake, h]

theorem restartAccepted_iff (target : Nat) (s : State) :
    restartAccepted target s = true ↔
      target = s.start.address ∧ s.start.address ≠ 0 ∧ s.recallLatch.latched = false
        ∧ s.start.config ≠ some .rejected := by
  simp only [restartAccepted, targetsOwn, rejected, Bool.and_eq_true, beq_iff_eq, bne_iff_ne, Bool.not_eq_true',
    beq_eq_false_iff_ne, and_assoc]
  exact and_congr_right fun own => by rw [own]

/-- A RESTART taken: a LINE reset where it is accepted, and else nothing. -/
theorem queryTaken_restart {e : RxEntry} (action : byteAt e.payload 1 = 2) (s : State) :
    queryTaken e s =
      if awake s.power.mode = true ∧ restartAccepted (byteAt e.payload 0) s = true then lineReset s else s := by
  cases h : awake s.power.mode
  · simp [queryTaken_of_asleep h]
  · simp [queryTaken, asleep_eq_not_awake, h, action, queryActionOf]

theorem exec_queryRestart {s : State} {e : RxEntry} {rest : List RxEntry} (runs : running s = true)
    (head : s.rx.entries = e :: rest) (kind : e.kind = .query) (action : byteAt e.payload 1 = 2) :
    exec .queryRestart s = .next (settle (queryTaken e (headTaken s rest))) := by
  rw [← takeHead_of_query runs head kind (fitsQuery_restart kind action)]
  rfl

/-- Settles O14: a LINE reset leaves nothing that could begin by itself, and a RESTART not accepted takes the head of
the queue alone. -/
theorem queryRestartIsALineReset : Obligations.QueryRestartIsALineReset := by
  intro s e rest runs head kind action
  refine ⟨_, exec_queryRestart runs head kind action, fun up own address clear config => ?_, fun refused => ?_⟩
  · have accepted : restartAccepted (byteAt e.payload 0) (headTaken s rest) = true :=
      (restartAccepted_iff _ _).2 ⟨own, address, clear, config⟩
    rw [queryTaken_restart action, if_pos ⟨up, accepted⟩, settle_lineReset]
    exact ⟨afterReset_lineReset _, rfl, rfl, strapsSampled_lineReset (s := headTaken s rest), rfl, rfl⟩
  · have ignored :
        ¬(awake s.power.mode = true ∧ restartAccepted (byteAt e.payload 0) (headTaken s rest) = true) := by
      rintro ⟨up, accepted⟩
      obtain ⟨own, address, clear, config⟩ := (restartAccepted_iff _ _).1 accepted
      rcases refused with asleep | other | zero | set | rejected
      · simp [asleep] at up
      · exact other own
      · exact address zero
      · exact absurd (clear.symm.trans set) Bool.false_ne_true
      · exact config rejected
    rw [queryTaken_restart action, if_neg (by exact ignored)]
    exact settle_settles _

/-! ### STATUS, and the end of the hold-off (R189, R192) -/

theorem answerStatus_of_empty {s : State} (address : s.start.address ≠ 0) (slot : s.status.slot = none) :
    answerStatus s = { s with status := { s.status with slot := some .solicited } } := by
  simp only [answerStatus, if_neg address, slot]

theorem answerStatus_of_refused {s : State} (h : s.start.address = 0 ∨ s.status.slot.isSome = true) :
    answerStatus s = s := by
  rcases h with address | full
  · exact if_pos address
  · obtain ⟨o, ho⟩ := Option.isSome_iff_exists.1 full
    simp only [answerStatus, ho, ite_self]

theorem queryTaken_status {s : State} {e : RxEntry} (up : awake s.power.mode = true)
    (action : byteAt e.payload 1 = 1) : queryTaken e s = answerStatus s := by
  simp [queryTaken, asleep_eq_not_awake, up, action, queryActionOf]

theorem queryTaken_unknown {s : State} {e : RxEntry} (up : awake s.power.mode = true) (h1 : byteAt e.payload 1 ≠ 1)
    (h2 : byteAt e.payload 1 ≠ 2) : queryTaken e s = setFlag .lineCheckError s := by
  simp [queryTaken, asleep_eq_not_awake, up, queryActionOf_eq_none h1 h2]

theorem exec_queryStatus {s : State} {e : RxEntry} {rest : List RxEntry} (runs : running s = true)
    (head : s.rx.entries = e :: rest) (kind : e.kind = .query) (action : byteAt e.payload 1 ≠ 2) :
    exec .queryStatus s = .next (settle (queryTaken e (headTaken s rest))) := by
  rw [← takeHead_of_query runs head kind (fitsQuery_status kind action)]
  rfl

/-- A command whose own effect on the state is known leaves that effect and what begins by itself. -/
theorem settles_of_eq {x e : State} (h : x = e) : settles e (settle x) := h ▸ settle_settles x

theorem endHoldOff_eq (t : StatusBlock) :
    endHoldOff t =
      { t with
        holdOff := none
        alertPending := false
        slot := if t.slot = none ∧ t.alertPending = true then some .alert else t.slot } := by
  unfold endHoldOff
  cases t.slot <;> simp

theorem exec_alertHoldOffDeadline {s : State} {d : Nat} (deadline : s.status.holdOff = some d) (due : d ≤ s.now) :
    exec .alertHoldOffDeadline s = .next (settle { s with status := endHoldOff s.status }) := by
  show execAlertHoldOffDeadline s = _
  rw [execAlertHoldOffDeadline, if_pos ((passed_iff s _).2 ⟨d, deadline, due⟩)]

/-- Settles O29: the take by the action and the power state, and the hold-off's end by the pending mark. -/
theorem statSlotIsFilledByQueryAndHoldOff : Obligations.StatSlotIsFilledByQueryAndHoldOff := by
  refine ⟨fun s e rest runs head kind action => ?_, fun s d deadline due => ?_⟩
  · refine ⟨_, exec_queryStatus runs head kind action, fun status up address empty => settles_of_eq ?_,
      fun status refused => settles_of_eq ?_, fun unknown up => settles_of_eq ?_, fun _ asleep => settles_of_eq ?_⟩
    · exact (queryTaken_status (s := headTaken s rest) up status).trans (answerStatus_of_empty address empty)
    · cases up : awake s.power.mode
      · exact queryTaken_of_asleep (s := headTaken s rest) up e
      · rw [queryTaken_status (s := headTaken s rest) up status]
        exact answerStatus_of_refused (refused.resolve_left (by simp [up]))
    · exact queryTaken_unknown up unknown action
    · exact queryTaken_of_asleep (s := headTaken s rest) asleep e
  · refine ⟨_, exec_alertHoldOffDeadline deadline due, ?_⟩
    rw [endHoldOff_eq]
    exact settle_settles _

end Sys2Proof.StationQueries
end
